-- ==== Sys2Proof/Word.lean ====
section
/-! DEFINITION. The two word types of 00_scope.md rule R9: the byte and the u16, both unsigned. -/

namespace Sys2Proof

/-- An unsigned 8-bit value (R9). -/
abbrev Byte := BitVec 8

/-- An unsigned 16-bit value (R9). -/
abbrev U16 := BitVec 16

end Sys2Proof
end

