-- ==== Sys2Proof/Config.lean ====
section
/-! DEFINITION. Implementation parameters (00_scope.md rules R6, R7) and the free values.

R6's literals are constants. R7's parameters are the fields of `Params`; a `Handle` (R15 "Device Handle") carries
them with the proof that the constraints of R7 and R101 hold. What no source fixes at all is an `opaque` constant. -/

namespace Sys2Proof.Config

/-! ## R6: values the document fixes -/

/-- Frame-type byte, the first byte of every command frame (R6). -/
def FRAME_CMD : Byte := 0x03#8
/-- XOR constant of the checksum step (R6). -/
def CRC_POLY : U16 := 0x8005#16
/-- Accumulator value before the first bit (R6). -/
def CRC_INIT : U16 := 0x0000#16
/-- Payload byte the wake response must carry (R6). -/
def READY_CODE : Byte := 0x11#8
/-- Short-read retries of one `receive` (R6). -/
def READ_RETRIES : Nat := 20
/-- Settle time of random, ms (R6). -/
def T_RANDOM_MS : U16 := 23#16
/-- Settle time of key generation, ms (R6). -/
def T_GENKEY_MS : U16 := 115#16
/-- Settle time of signing, ms (R6). -/
def T_SIGN_MS : U16 := 50#16
/-- Settle time of verification, ms (R6). -/
def T_VERIFY_MS : U16 := 58#16
/-- Settle time of a 4- or 32-byte write, ms (R6). -/
def T_WRITE_MS : U16 := 26#16
/-- Settle time of a zone read, ms (R6). -/
def T_READ_MS : U16 := 1#16
/-- Settle time of lock, ms (R6). -/
def T_LOCK_MS : U16 := 32#16
/-- Delay before the final idle of `random`, ms (R6). -/
def T_DRAIN_MS : U16 := 1#16
/-- Bytes one random command yields (R6). -/
def RANDOM_BLOCK : Nat := 32
/-- The largest expected payload length a response frame can carry (R8, R161). -/
def MAX_EXPECTED : Nat := 252

/-! ## R7: parameters the document leaves open -/

/-- The parameters of R7, one field each, under R7's names. -/
structure Params where
  /-- `DEV_ADDR`: the device's bus address. -/
  devAddr : Nat
  /-- `GENERAL_CALL_ADDR`: where the wake transmission goes. -/
  generalCallAddr : Nat
  /-- `BUS_ADDR_BITS`: width of a bus address. -/
  busAddrBits : Nat
  /-- `BUS_CLOCK`: the rate set once at startup, a number whose unit no rule reads. -/
  busClock : Nat
  /-- `WORD_IDLE`: the byte that forces the device to Idle. -/
  wordIdle : Byte
  /-- `WORD_SLEEP`: the byte that forces the device to Asleep. -/
  wordSleep : Byte
  /-- `T_WAKE_US`: the wake settle time, microseconds. -/
  tWakeUs : Nat
  /-- `READ_ATTEMPTS`: bus read attempts of one `receive` (90_conflicts.md C1: 20 or 21, default 21). -/
  readAttempts : Nat
  /-- `MAX_PAYLOAD`: the protocol maximum payload length. -/
  maxPayload : Nat
  /-- `T_NONCE_MS`: settle time of challenge/nonce. -/
  tNonceMs : U16
  /-- `T_INFO_MS`: settle time of the version query. -/
  tInfoMs : U16
  /-- `T_WATCHDOG`: the device's self-timeout. The spec gives no unit: microseconds is the model's choice (log entry 35). -/
  tWatchdogUs : Nat
  /-- `OP_RANDOM`. -/
  opRandom : Byte
  /-- `OP_GENKEY`. -/
  opGenkey : Byte
  /-- `OP_NONCE`. -/
  opNonce : Byte
  /-- `OP_SIGN`. -/
  opSign : Byte
  /-- `OP_VERIFY`. -/
  opVerify : Byte
  /-- `OP_READ`. -/
  opRead : Byte
  /-- `OP_WRITE`. -/
  opWrite : Byte
  /-- `OP_LOCK`. -/
  opLock : Byte
  /-- `OP_INFO`. -/
  opInfo : Byte
  /-- `RANDOM_P1`. -/
  randomP1 : Byte
  /-- `RANDOM_P2`. -/
  randomP2 : U16
  /-- `GENKEY_MODE_CREATE`. -/
  genkeyModeCreate : Byte
  /-- `GENKEY_MODE_PUBLIC`. -/
  genkeyModePublic : Byte
  /-- `NONCE_MODE`. -/
  nonceMode : Byte
  /-- `NONCE_P2`. -/
  nonceP2 : U16
  /-- `SIGN_MODE`. -/
  signMode : Byte
  /-- `VERIFY_MODE`. -/
  verifyMode : Byte
  /-- `VERIFY_CURVE_P256`. -/
  verifyCurveP256 : U16
  /-- `LOCK_SEL_CONFIG`. -/
  lockSelConfig : Byte
  /-- `LOCK_SEL_DATA_OTP`. -/
  lockSelDataOtp : Byte
  /-- `LOCK_P2`. -/
  lockP2 : U16
  /-- `INFO_MODE`. -/
  infoMode : Byte
  /-- `INFO_P2`. -/
  infoP2 : U16
  /-- `ZONE_SEL_32`: the high bit of the zone selector. -/
  zoneSel32 : Byte
  /-- `DEVICE_FAMILY`: the 4-byte device-family constant, as one 32-bit field. The spec gives no byte order (log entry 35). -/
  deviceFamily : BitVec 32
  deriving DecidableEq, Repr, Inhabited

/-- The constraints of R7 and R101. That the two bus addresses fit `BUS_ADDR_BITS` is DEDUCED from that parameter's
name (log entry 26). -/
def Params.wf (p : Params) : Bool :=
  decide (p.devAddr < 2 ^ p.busAddrBits) && decide (p.generalCallAddr < 2 ^ p.busAddrBits) &&
  decide (p.wordIdle ≠ FRAME_CMD) && decide (p.wordSleep ≠ FRAME_CMD) && decide (p.wordIdle ≠ p.wordSleep) &&
  decide (0 < p.tWakeUs) && decide (p.tWakeUs < 1000) &&
  decide (p.readAttempts = READ_RETRIES ∨ p.readAttempts = READ_RETRIES + 1) &&
  decide (128 ≤ p.maxPayload) && decide (p.maxPayload ≤ 248) &&
  decide (p.genkeyModeCreate ≠ p.genkeyModePublic) && decide (p.lockSelConfig ≠ p.lockSelDataOtp) &&
  decide (p.zoneSel32 ∈ [0x04#8, 0x08#8, 0x10#8, 0x20#8, 0x40#8, 0x80#8])

/-- A device handle's configuration: parameters together with the proof that they are admissible, so that the
configurations R101 rejects cannot be built. -/
structure Handle where
  /-- The parameters. -/
  params : Params
  /-- They satisfy R7 and R101. -/
  admissible : params.wf = true
  deriving DecidableEq, Repr

/-- The caller's construction of a handle: `none` where R7 or R101 rejects the configuration. -/
def Handle.make? (p : Params) : Option Handle :=
  if h : p.wf = true then some ⟨p, h⟩ else none

/-- X1's `BUS_CLOCK`, a free value: the table of 93_implementation_defined.md item G1 has no row for it, and
91_not_in_source.md says that no clock rate may be assumed (DESIGN CHOICE, log entry 34). -/
opaque x1BusClock : Nat

/-- The test-only instantiation X1 of 93_implementation_defined.md item G1 (decision D30). No rule depends on it; the
tests use it. Its `BUS_CLOCK` is free, and the model's choices beside the table are that `DEVICE_FAMILY` is the example
`00 00 50 00` given there, first byte highest, and `T_WATCHDOG`, there about 1.3 s, 1300000 microseconds (log entry 34). -/
def x1Params : Params where
  devAddr := 0x60
  generalCallAddr := 0
  busAddrBits := 7
  busClock := x1BusClock
  wordIdle := 0x02#8
  wordSleep := 0x01#8
  tWakeUs := 800
  readAttempts := 21
  maxPayload := 248
  tNonceMs := 29#16
  tInfoMs := 1#16
  tWatchdogUs := 1300000
  opRandom := 0x1B#8
  opGenkey := 0x40#8
  opNonce := 0x16#8
  opSign := 0x41#8
  opVerify := 0x45#8
  opRead := 0x02#8
  opWrite := 0x12#8
  opLock := 0x17#8
  opInfo := 0x30#8
  randomP1 := 0x00#8
  randomP2 := 0x0000#16
  genkeyModeCreate := 0x04#8
  genkeyModePublic := 0x00#8
  nonceMode := 0x03#8
  nonceP2 := 0x0000#16
  signMode := 0x80#8
  verifyMode := 0x02#8
  verifyCurveP256 := 0x0004#16
  lockSelConfig := 0x80#8
  lockSelDataOtp := 0x81#8
  lockP2 := 0x0000#16
  infoMode := 0x00#8
  infoP2 := 0x0000#16
  zoneSel32 := 0x80#8
  deviceFamily := 0x00005000#32

/-- X1 as a handle. -/
def x1 : Handle := ⟨x1Params, by decide⟩

/-! ## Free values -/

/-- The parameters of the handle that is created at reset, free: nothing is known of them. -/
opaque rawParams : Params

/-- The configuration after reset: a free value among the admissible ones (DESIGN CHOICE, log entry 2). `x1` stands
only where the free parameters are not admissible, so every admissible configuration is possible and nothing can be
proved of the choice. -/
def handle : Handle :=
  if h : rawParams.wf = true then ⟨rawParams, h⟩ else x1

/-- The status of the n-th free draw of a `BusWrite` (R10, 92 D24): unconstrained (log entry 3). -/
opaque freeStatus : Nat → Byte

/-- The bytes of the n-th free draw of a `BusRead` (R10, 92 D24): unconstrained (log entry 3). -/
opaque freeAnswer : Nat → List Byte

/-- How the client compares the version query's bytes with `DEVICE_FAMILY` (92 D40: open). -/
opaque familyMatches : BitVec 32 → List Byte → Bool

end Sys2Proof.Config
end

