-- ==== Sys2Proof/Machine/Checksum.lean ====
section
/-! DEFINITION. The Checksum Engine (40_checksum.md R130 to R133) as a unit with its own two registers. -/

namespace Sys2Proof.Machine

/-- The Checksum Engine's registers `CRC_ACC` (R28) and `CRC_BIT` (R29). -/
structure CrcUnit where
  /-- `CRC_ACC`. -/
  acc : U16
  /-- `CRC_BIT`. -/
  bit : BitVec 3
  deriving DecidableEq, Repr

/-- Clear (R130). -/
def crcClear : CrcUnit := ⟨Config.CRC_INIT, 0#3⟩

/-- The bit step on the accumulator (R131): the top bit is read before the shift, the XOR comes after it. -/
def crcBitStep (acc : U16) (d : Bool) : U16 :=
  if d != acc.getLsbD 15 then (acc <<< 1) ^^^ Config.CRC_POLY else acc <<< 1

/-- One bit step of the unit on byte `b`: it consumes the bit that `CRC_BIT` selects and advances `CRC_BIT`, which
returns to 0 after bit 7 (R29, R132). -/
def crcUnitStep (b : Byte) (u : CrcUnit) : CrcUnit :=
  ⟨crcBitStep u.acc (b.getLsbD u.bit.toNat), u.bit + 1#3⟩

/-- The byte step: eight bit steps (R132). -/
def crcByteStep (u : CrcUnit) (b : Byte) : CrcUnit :=
  crcUnitStep b (crcUnitStep b (crcUnitStep b (crcUnitStep b
    (crcUnitStep b (crcUnitStep b (crcUnitStep b (crcUnitStep b u)))))))

/-- The unit after a whole computation over `s`: clear, then every byte in order (R133). -/
def crcRun (s : List Byte) : CrcUnit := s.foldl crcByteStep crcClear

/-- `crc16(s)` (R133): the final accumulator. -/
def crc16 (s : List Byte) : U16 := (crcRun s).acc

end Sys2Proof.Machine
end

