-- ==== Sys2Proof/Syntax.lean ====
section
/-! DEFINITION. The instructions: one constructor per row of spec/opcode_table.json.

Nine host operations (30_encoding.md R103 to R112), the reserved host operation (R113), the five wire formats
(R90 to R99) and the thirteen pseudo-instructions (R122; 43_commands.md R220 to R233). A length or checksum that the
spec computes is no field; an operand that the spec limits further is checked in WellFormed. -/

namespace Sys2Proof

/-- The device's three storage zones with their numbers 0, 1, 2 (R6, R73, R228). -/
inductive Zone where
  | config
  | otp
  | data
  deriving DecidableEq, Repr

/-- The instructions of spec/opcode_table.json. -/
inductive Instr where
  /-- CRC (R104, R134): the checksum of the given bytes. -/
  | crc (bytes : List Byte)
  /-- SEND (R105, R150): write one command frame. -/
  | send (opcode p1 : Byte) (p2 : U16) (payload : List Byte)
  /-- RECV (R106, R154): read one response frame of n payload bytes. -/
  | recv (n : Byte)
  /-- WAKE (R107, R183). -/
  | wake
  /-- IDLE (R107, R187). -/
  | idle
  /-- SLEEP (R107, R188). -/
  | sleep
  /-- WAIT (R108, R189): block for t milliseconds. -/
  | wait (t : U16)
  /-- EXCH (R109, R190): send, settle, receive, optional status check. -/
  | exch (opcode p1 : Byte) (p2 settle : U16) (n : Byte) (statusCheck : Bool) (payload : List Byte)
  /-- XACT (R110, R191): wake, exchange, drain, best-effort idle. -/
  | xact (opcode p1 : Byte) (p2 settle : U16) (n : Byte) (statusCheck : Bool) (drain : Byte) (payload : List Byte)
  /-- A reserved host operation (R113): operation code 0x00 or 0x0A to 0xFF, and the descriptor's other bytes. -/
  | reserved (op : Byte) (rest : List Byte)
  /-- W-CMD (R91): a command frame on the bus; L and the checksum are computed. -/
  | wCmd (opcode p1 : Byte) (p2 : U16) (payload : List Byte)
  /-- W-RSP (R95): a valid response frame from the device; its length byte and checksum are computed. -/
  | wRsp (payload : List Byte)
  /-- W-IDLE (R97). -/
  | wIdle
  /-- W-SLEEP (R98). -/
  | wSleep
  /-- W-WAKE (R99). -/
  | wWake
  /-- RANDOM (R220). -/
  | random
  /-- GENKEY.CREATE (R221). -/
  | genkeyCreate (slot : U16)
  /-- GENKEY.PUBLIC (R222). -/
  | genkeyPublic (slot : U16)
  /-- NONCE (R223). -/
  | nonce (digest : List Byte)
  /-- SIGN (R224). -/
  | sign (slot : U16)
  /-- VERIFY (R225). -/
  | verify (signature publicKey : List Byte)
  /-- READ4 (R226). -/
  | read4 (zone : Zone) (word : U16)
  /-- READ32 (R227). -/
  | read32 (zone : Zone) (word : U16)
  /-- WRITE4 (R229). -/
  | write4 (zone : Zone) (word : U16) (data : List Byte)
  /-- WRITE32 (R230). -/
  | write32 (zone : Zone) (word : U16) (data : List Byte)
  /-- LOCK.CONFIG (R231). -/
  | lockConfig
  /-- LOCK.DATA (R232). -/
  | lockData
  /-- INFO (R233). -/
  | info
  deriving DecidableEq, Repr

end Sys2Proof
end

