-- ==== Sys2Proof/Machine/Operands.lean ====
section
/-! DEFINITION. Operand assembly and byte order (00_scope.md R9; 30_encoding.md R112; 43_commands.md R228). -/

namespace Sys2Proof.Machine

/-- `lo8(v) = v[7:0]` (R9). -/
def lo8 (v : U16) : Byte := v.extractLsb' 0 8

/-- `hi8(v) = v[15:8]` (R9). -/
def hi8 (v : U16) : Byte := v.extractLsb' 8 8

/-- `le16(a, b) = zext_16(a) | (zext_16(b) << 8)` (R9). -/
def le16 (a b : Byte) : U16 := a.setWidth 16 ||| (b.setWidth 16 <<< 8)

/-- The total-length field of a command frame, L = 7 + P (R92). -/
def frameLengthField (payloadLength : Nat) : Byte := BitVec.ofNat 8 (7 + payloadLength)

/-- The number of bytes one read of an n-byte response requests, k = n + 3 (R69, R112). -/
def requestLength (n : Byte) : Nat := n.toNat + 3

/-- The zone numbers 0, 1, 2 (R6, R73). -/
def zoneNumber : Zone → Byte
  | .config => 0#8
  | .otp => 1#8
  | .data => 2#8

/-- The zone selector for a 4-byte transfer (R228). -/
def zoneSelector4 (z : Zone) : Byte := zoneNumber z

/-- The zone selector for a 32-byte transfer, with the high bit set (R228). -/
def zoneSelector32 (p : Config.Params) (z : Zone) : Byte := zoneNumber z ||| p.zoneSel32

/-- The flags byte of EXCH and XACT (R111): bit 0 is `STATUS_CHECK`, bits 7:1 are 0. -/
def flagsByte (statusCheck : Bool) : Byte := if statusCheck then 0x01#8 else 0x00#8

/-- `STATUS_CHECK`, bit 0 of the flags byte (R111). -/
def flagsStatusCheck (flags : Byte) : Bool := flags.getLsbD 0

/-- The reserved bits 7:1 of the flags byte (R111). -/
def flagsReserved (flags : Byte) : Byte := flags &&& 0xFE#8

end Sys2Proof.Machine
end

