-- ==== Sys2Proof/Machine/Frames.lean ====
section
/-! DEFINITION. The frames on the wire: building a command frame (30_encoding.md R91 to R93; 41_framer.md R151), the
form of a response frame (R95) and its validation (R157, R158, R160), and the failure codes these can give. -/

namespace Sys2Proof.Machine

/-- The failures of 60_exceptions.md R261, code 0x00 (success) among them. -/
inductive ErrCode where
  /-- 0x00, success. -/
  | ok
  /-- 0x10, category (a). -/
  | transportWrite
  /-- 0x11, category (a). -/
  | transportRead
  /-- 0x20, category (b). -/
  | integrityLength
  /-- 0x21, category (b). -/
  | integrityChecksum
  /-- 0x30, category (c). -/
  | deviceStatus
  /-- 0x40, category (d). -/
  | readinessWakeCode
  /-- 0x41, category (d). -/
  | readinessWakeNoresp
  /-- 0x42, category (d); the client's, never the engine's. -/
  | readinessVersion
  /-- 0x50; the client's, never the engine's. -/
  | argument
  deriving DecidableEq, Repr

/-- The covered bytes of a command frame: L, opcode, param1, param2 low, param2 high, payload (R93). -/
def commandBody (opcode p1 : Byte) (p2 : U16) (payload : List Byte) : List Byte :=
  frameLengthField payload.length :: opcode :: p1 :: lo8 p2 :: hi8 p2 :: payload

/-- W-CMD (R91): the frame type, the covered bytes, and their checksum, low byte first (R63). -/
def commandFrame (opcode p1 : Byte) (p2 : U16) (payload : List Byte) : List Byte :=
  Config.FRAME_CMD :: (commandBody opcode p1 p2 payload ++
    [lo8 (crc16 (commandBody opcode p1 p2 payload)), hi8 (crc16 (commandBody opcode p1 p2 payload))])

/-- The covered bytes of a response frame: length and payload (R95). -/
def responseBody (payload : List Byte) : List Byte :=
  BitVec.ofNat 8 (payload.length + 3) :: payload

/-- W-RSP (R95). -/
def responseFrame (payload : List Byte) : List Byte :=
  responseBody payload ++ [lo8 (crc16 (responseBody payload)), hi8 (crc16 (responseBody payload))]

/-- Validation (a): the first byte equals the requested total length k (R157). -/
def lengthByteOk (k : Nat) (s : List Byte) : Bool := decide ((s.getD 0 0#8).toNat = k)

/-- The bytes a response's checksum covers, `s[0..k-2)` (R158). -/
def coveredBytes (k : Nat) (s : List Byte) : List Byte := s.take (k - 2)

/-- The received checksum `le16(s[k-2], s[k-1])` (R64). -/
def receivedChecksum (k : Nat) (s : List Byte) : U16 := le16 (s.getD (k - 2) 0#8) (s.getD (k - 1) 0#8)

/-- The payload of a validated frame, `s[1..1+n)` with n = k - 3 (R160). -/
def framePayload (k : Nat) (s : List Byte) : List Byte := (s.drop 1).take (k - 3)

/-- Validation of a full-length attempt, length byte first, checksum second (R157, R158, R160, R268). -/
def validateFrame (k : Nat) (s : List Byte) : Except ErrCode (List Byte) :=
  if lengthByteOk k s then
    if receivedChecksum k s = crc16 (coveredBytes k s) then .ok (framePayload k s)
    else .error .integrityChecksum
  else .error .integrityLength

end Sys2Proof.Machine
end

