-- ==== Sys2Proof/WellFormed.lean ====
section
/-! DEFINITION. Which terms of `Instr` stand for something the spec's encodings can carry. -/

namespace Sys2Proof

/-- A descriptor can carry the operands (R104 to R111), a frame can carry the payload (R8), a reserved code is one of
R113's, and a profile's payload has the size its rule gives (R223 leaves a digest of another length to be sent, so
only the descriptor's own bound limits it). -/
def Instr.wf : Instr → Bool
  | .crc bytes => decide (bytes.length ≤ 255)
  | .send _ _ _ payload => decide (payload.length ≤ 255)
  | .recv _ => true
  | .wake => true
  | .idle => true
  | .sleep => true
  | .wait _ => true
  | .exch _ _ _ _ n statusCheck payload => decide (payload.length ≤ 255) && (!statusCheck || n == 1#8)
  | .xact _ _ _ _ n statusCheck _ payload => decide (payload.length ≤ 255) && (!statusCheck || n == 1#8)
  | .reserved op _ => op == 0#8 || decide (0x0A ≤ op.toNat)
  | .wCmd _ _ _ payload => decide (payload.length ≤ 248)
  | .wRsp payload => decide (payload.length ≤ 252)
  | .wIdle => true
  | .wSleep => true
  | .wWake => true
  | .random => true
  | .genkeyCreate _ => true
  | .genkeyPublic _ => true
  | .nonce digest => decide (digest.length ≤ 255)
  | .sign _ => true
  | .verify signature publicKey => decide (signature.length = 64) && decide (publicKey.length = 64)
  | .read4 _ _ => true
  | .read32 _ _ => true
  | .write4 _ _ data => decide (data.length = 4)
  | .write32 _ _ data => decide (data.length = 32)
  | .lockConfig => true
  | .lockData => true
  | .info => true

/-- The nine host operations of R103 (the reserved codes are none). -/
def Instr.isHostOp : Instr → Bool
  | .crc _ => true
  | .send _ _ _ _ => true
  | .recv _ => true
  | .wake => true
  | .idle => true
  | .sleep => true
  | .wait _ => true
  | .exch _ _ _ _ _ _ _ => true
  | .xact _ _ _ _ _ _ _ _ => true
  | .reserved _ _ => false
  | .wCmd _ _ _ _ => false
  | .wRsp _ => false
  | .wIdle => false
  | .wSleep => false
  | .wWake => false
  | .random => false
  | .genkeyCreate _ => false
  | .genkeyPublic _ => false
  | .nonce _ => false
  | .sign _ => false
  | .verify _ _ => false
  | .read4 _ _ => false
  | .read32 _ _ => false
  | .write4 _ _ _ => false
  | .write32 _ _ _ => false
  | .lockConfig => false
  | .lockData => false
  | .info => false

/-- The five wire formats of R90. -/
def Instr.isWire : Instr → Bool
  | .crc _ => false
  | .send _ _ _ _ => false
  | .recv _ => false
  | .wake => false
  | .idle => false
  | .sleep => false
  | .wait _ => false
  | .exch _ _ _ _ _ _ _ => false
  | .xact _ _ _ _ _ _ _ _ => false
  | .reserved _ _ => false
  | .wCmd _ _ _ _ => true
  | .wRsp _ => true
  | .wIdle => true
  | .wSleep => true
  | .wWake => true
  | .random => false
  | .genkeyCreate _ => false
  | .genkeyPublic _ => false
  | .nonce _ => false
  | .sign _ => false
  | .verify _ _ => false
  | .read4 _ _ => false
  | .read32 _ _ => false
  | .write4 _ _ _ => false
  | .write32 _ _ _ => false
  | .lockConfig => false
  | .lockData => false
  | .info => false

/-- The thirteen pseudo-instructions of R122. -/
def Instr.isPseudo : Instr → Bool
  | .crc _ => false
  | .send _ _ _ _ => false
  | .recv _ => false
  | .wake => false
  | .idle => false
  | .sleep => false
  | .wait _ => false
  | .exch _ _ _ _ _ _ _ => false
  | .xact _ _ _ _ _ _ _ _ => false
  | .reserved _ _ => false
  | .wCmd _ _ _ _ => false
  | .wRsp _ => false
  | .wIdle => false
  | .wSleep => false
  | .wWake => false
  | .random => true
  | .genkeyCreate _ => true
  | .genkeyPublic _ => true
  | .nonce _ => true
  | .sign _ => true
  | .verify _ _ => true
  | .read4 _ _ => true
  | .read32 _ _ => true
  | .write4 _ _ _ => true
  | .write32 _ _ _ => true
  | .lockConfig => true
  | .lockData => true
  | .info => true

end Sys2Proof
end

