-- ==== Sys2Proof/Decode.lean ====
section
/-! DEFINITION. The decoders and the encoder.

`decode` reads a host-operation descriptor (30_encoding.md R103 to R113), `decodeWire` a transmission on the bus
(R90 to R102), and `encode` writes both. A pseudo-instruction has no words of its own: it assembles to the descriptor
of its EXCH (R122), which `decode` reads as that EXCH. -/

namespace Sys2Proof

open Machine

/-- Why a descriptor is malformed (R113). -/
inductive DecodeError where
  /-- The descriptor holds no byte, so no operation code. -/
  | empty
  /-- Its length differs from the length its layout rule gives. -/
  | wrongLength
  /-- A reserved bit of the flags byte is not zero. -/
  | reservedFlagBits
  /-- `STATUS_CHECK` is set with n ≠ 1. -/
  | statusCheckLength
  deriving DecidableEq, Repr

/-- CRC, after its operation code: `[N, b0, …]` (R104). -/
def decodeCrc : List Byte → Except DecodeError Instr
  | n :: bytes => if bytes.length = n.toNat then .ok (.crc bytes) else .error .wrongLength
  | [] => .error .wrongLength

/-- SEND, after its operation code: `[opcode, p1, p2lo, p2hi, P, payload]` (R105). -/
def decodeSend : List Byte → Except DecodeError Instr
  | opcode :: p1 :: p2lo :: p2hi :: len :: payload =>
    if payload.length = len.toNat then .ok (.send opcode p1 (le16 p2lo p2hi) payload) else .error .wrongLength
  | _ => .error .wrongLength

/-- RECV, after its operation code: `[n]` (R106). -/
def decodeRecv : List Byte → Except DecodeError Instr
  | [n] => .ok (.recv n)
  | _ => .error .wrongLength

/-- WAKE, IDLE and SLEEP, after their operation code: nothing (R107). -/
def decodeBare (i : Instr) : List Byte → Except DecodeError Instr
  | [] => .ok i
  | _ => .error .wrongLength

/-- WAIT, after its operation code: `[tlo, thi]` (R108). -/
def decodeWait : List Byte → Except DecodeError Instr
  | [tlo, thi] => .ok (.wait (le16 tlo thi))
  | _ => .error .wrongLength

/-- The checks on the flags byte of EXCH and XACT (R111): reserved bits, then `STATUS_CHECK` with n ≠ 1. -/
def checkFlags (flags n : Byte) (i : Instr) : Except DecodeError Instr :=
  if flagsReserved flags ≠ 0#8 then .error .reservedFlagBits
  else if flagsStatusCheck flags = true ∧ n ≠ 1#8 then .error .statusCheckLength
  else .ok i

/-- EXCH, after its operation code (R109). -/
def decodeExch : List Byte → Except DecodeError Instr
  | opcode :: p1 :: p2lo :: p2hi :: slo :: shi :: n :: flags :: len :: payload =>
    if payload.length = len.toNat then
      checkFlags flags n (.exch opcode p1 (le16 p2lo p2hi) (le16 slo shi) n (flagsStatusCheck flags) payload)
    else .error .wrongLength
  | _ => .error .wrongLength

/-- XACT, after its operation code (R110). -/
def decodeXact : List Byte → Except DecodeError Instr
  | opcode :: p1 :: p2lo :: p2hi :: slo :: shi :: n :: flags :: drain :: len :: payload =>
    if payload.length = len.toNat then
      checkFlags flags n (.xact opcode p1 (le16 p2lo p2hi) (le16 slo shi) n (flagsStatusCheck flags) drain payload)
    else .error .wrongLength
  | _ => .error .wrongLength

/-- The whole descriptor is decoded and checked before the operation's first step (R103, R113). -/
def decode : List Byte → Except DecodeError Instr
  | [] => .error .empty
  | op :: rest =>
    match op.toNat with
    | 0x01 => decodeCrc rest
    | 0x02 => decodeSend rest
    | 0x03 => decodeRecv rest
    | 0x04 => decodeBare .wake rest
    | 0x05 => decodeBare .idle rest
    | 0x06 => decodeBare .sleep rest
    | 0x07 => decodeWait rest
    | 0x08 => decodeExch rest
    | 0x09 => decodeXact rest
    | _ => .ok (.reserved op rest)

/-! ## The wire -/

/-- Which way a transmission goes (R90). -/
inductive Direction where
  | toDevice
  | toEngine
  deriving DecidableEq, Repr

/-- Why a transmission is none of the engine's wire formats. -/
inductive WireError where
  /-- A write to another address, or an empty write to `DEV_ADDR` (R61). -/
  | unknownAddress
  /-- A first byte that is none of R90's (R115). -/
  | unknownFirstByte
  /-- The length field does not match the frame (R92, R95). -/
  | lengthField
  /-- The checksum does not match the covered bytes (R93, R95). -/
  | checksum
  deriving DecidableEq, Repr

/-- The reference decoder of a command frame (R91, R162). -/
def decodeCommandFrame (frame : List Byte) : Except WireError Instr :=
  match frame with
  | ft :: l :: opcode :: p1 :: p2lo :: p2hi :: tail =>
    if ft ≠ Config.FRAME_CMD then .error .unknownFirstByte
    else if l.toNat + 1 ≠ frame.length ∨ tail.length < 2 then .error .lengthField
    else
      let payload := tail.take (l.toNat - 7)
      if le16 (frame.getD (l.toNat - 1) 0#8) (frame.getD l.toNat 0#8) = crc16 ((frame.drop 1).take (l.toNat - 2)) then
        .ok (.wCmd opcode p1 (le16 p2lo p2hi) payload)
      else .error .checksum
  | _ => .error .lengthField

/-- A transmission from the engine (R90, R97 to R102). -/
def decodeToDevice (p : Config.Params) (addr : Nat) : List Byte → Except WireError Instr
  | [] => if addr = p.generalCallAddr then .ok .wWake else .error .unknownAddress
  | [b] =>
    if addr ≠ p.devAddr then .error .unknownAddress
    else if b = p.wordIdle then .ok .wIdle
    else if b = p.wordSleep then .ok .wSleep
    else .error .unknownFirstByte
  | b0 :: b1 :: rest =>
    if addr ≠ p.devAddr then .error .unknownAddress else decodeCommandFrame (b0 :: b1 :: rest)

/-- A response frame as the engine reads it: its length is that of the read (R95, R102). -/
def decodeToEngine (p : Config.Params) (addr : Nat) (frame : List Byte) : Except WireError Instr :=
  if addr ≠ p.devAddr then .error .unknownAddress
  else if frame.length < 3 then .error .lengthField
  else
    match validateFrame frame.length frame with
    | .ok payload => .ok (.wRsp payload)
    | .error .integrityChecksum => .error .checksum
    | .error _ => .error .lengthField

/-- A transmission on the bus, in either direction. -/
def decodeWire (p : Config.Params) (dir : Direction) (addr : Nat) (bytes : List Byte) : Except WireError Instr :=
  match dir with
  | .toDevice => decodeToDevice p addr bytes
  | .toEngine => decodeToEngine p addr bytes

/-! ## The encoder -/

/-- The one EXCH a pseudo-instruction expands to (R122, R220 to R233); every other instruction stands for itself. -/
def expand (p : Config.Params) : Instr → Instr
  | .random => .exch p.opRandom p.randomP1 p.randomP2 Config.T_RANDOM_MS 32#8 false []
  | .genkeyCreate slot => .exch p.opGenkey p.genkeyModeCreate slot Config.T_GENKEY_MS 64#8 false []
  | .genkeyPublic slot => .exch p.opGenkey p.genkeyModePublic slot Config.T_GENKEY_MS 64#8 false []
  | .nonce digest => .exch p.opNonce p.nonceMode p.nonceP2 p.tNonceMs 1#8 true digest
  | .sign slot => .exch p.opSign p.signMode slot Config.T_SIGN_MS 64#8 false []
  | .verify signature publicKey =>
    .exch p.opVerify p.verifyMode p.verifyCurveP256 Config.T_VERIFY_MS 1#8 true (signature ++ publicKey)
  | .read4 zone word => .exch p.opRead (zoneSelector4 zone) word Config.T_READ_MS 4#8 false []
  | .read32 zone word => .exch p.opRead (zoneSelector32 p zone) word Config.T_READ_MS 32#8 false []
  | .write4 zone word data => .exch p.opWrite (zoneSelector4 zone) word Config.T_WRITE_MS 1#8 true data
  | .write32 zone word data => .exch p.opWrite (zoneSelector32 p zone) word Config.T_WRITE_MS 1#8 true data
  | .lockConfig => .exch p.opLock p.lockSelConfig p.lockP2 Config.T_LOCK_MS 1#8 true []
  | .lockData => .exch p.opLock p.lockSelDataOtp p.lockP2 Config.T_LOCK_MS 1#8 true []
  | .info => .exch p.opInfo p.infoMode p.infoP2 p.tInfoMs 4#8 false []
  | .crc bytes => .crc bytes
  | .send opcode p1 p2 payload => .send opcode p1 p2 payload
  | .recv n => .recv n
  | .wake => .wake
  | .idle => .idle
  | .sleep => .sleep
  | .wait t => .wait t
  | .exch opcode p1 p2 settle n sc payload => .exch opcode p1 p2 settle n sc payload
  | .xact opcode p1 p2 settle n sc drain payload => .xact opcode p1 p2 settle n sc drain payload
  | .reserved op rest => .reserved op rest
  | .wCmd opcode p1 p2 payload => .wCmd opcode p1 p2 payload
  | .wRsp payload => .wRsp payload
  | .wIdle => .wIdle
  | .wSleep => .wSleep
  | .wWake => .wWake

/-- A length byte of a descriptor. -/
def lengthByte (s : List Byte) : Byte := BitVec.ofNat 8 s.length

/-- The descriptor of EXCH (R109). -/
def encodeExch (opcode p1 : Byte) (p2 settle : U16) (n : Byte) (sc : Bool) (payload : List Byte) : List Byte :=
  0x08#8 :: opcode :: p1 :: lo8 p2 :: hi8 p2 :: lo8 settle :: hi8 settle :: n :: flagsByte sc :: lengthByte payload ::
    payload

/-- The words of an instruction other than a pseudo-instruction: a descriptor (R104 to R110) or a transmission
(R91 to R99). -/
def encodeCore (p : Config.Params) : Instr → List Byte
  | .crc bytes => 0x01#8 :: lengthByte bytes :: bytes
  | .send opcode p1 p2 payload => 0x02#8 :: opcode :: p1 :: lo8 p2 :: hi8 p2 :: lengthByte payload :: payload
  | .recv n => [0x03#8, n]
  | .wake => [0x04#8]
  | .idle => [0x05#8]
  | .sleep => [0x06#8]
  | .wait t => [0x07#8, lo8 t, hi8 t]
  | .exch opcode p1 p2 settle n sc payload => encodeExch opcode p1 p2 settle n sc payload
  | .xact opcode p1 p2 settle n sc drain payload =>
    0x09#8 :: opcode :: p1 :: lo8 p2 :: hi8 p2 :: lo8 settle :: hi8 settle :: n :: flagsByte sc :: drain ::
      lengthByte payload :: payload
  | .reserved op rest => op :: rest
  | .wCmd opcode p1 p2 payload => commandFrame opcode p1 p2 payload
  | .wRsp payload => responseFrame payload
  | .wIdle => [p.wordIdle]
  | .wSleep => [p.wordSleep]
  | .wWake => []
  | .random => []
  | .genkeyCreate _ => []
  | .genkeyPublic _ => []
  | .nonce _ => []
  | .sign _ => []
  | .verify _ _ => []
  | .read4 _ _ => []
  | .read32 _ _ => []
  | .write4 _ _ _ => []
  | .write32 _ _ _ => []
  | .lockConfig => []
  | .lockData => []
  | .info => []

/-- The words of an instruction: a pseudo-instruction assembles to the descriptor of its EXCH (R120, R122). -/
def encode (p : Config.Params) (i : Instr) : List Byte := encodeCore p (expand p i)

/-! ## The table's words -/

/-- The `k` low bytes of `w`, byte 0 first. -/
def tableBytes : Nat → Nat → List Byte
  | 0, _ => []
  | k + 1, w => BitVec.ofNat 8 w :: tableBytes k (w / 256)

/-- The length of the descriptor that starts with the given bytes and goes on with zeros (R104 to R110). -/
def descriptorLength (s : List Byte) : Nat :=
  match (s.getD 0 0#8).toNat with
  | 0x01 => 2 + (s.getD 1 0#8).toNat
  | 0x02 => 6 + (s.getD 5 0#8).toNat
  | 0x03 => 2
  | 0x04 => 1
  | 0x05 => 1
  | 0x06 => 1
  | 0x07 => 3
  | 0x08 => 10 + (s.getD 9 0#8).toNat
  | 0x09 => 11 + (s.getD 10 0#8).toNat
  | _ => max 1 s.length

/-- The descriptor that the table's number `w` of `nbits` bits stands for: byte 0 is the least significant byte, and
every operand byte that the table gives no bits is zero. -/
def tableDescriptor (nbits w : Nat) : List Byte :=
  let s := tableBytes ((nbits + 7) / 8) w
  let n := descriptorLength s
  (s ++ List.replicate n 0#8).take n

/-- The instruction the decoder reads from a table word, if any. -/
def decodeTableWord (nbits w : Nat) : Option Instr :=
  match decode (tableDescriptor nbits w) with
  | .ok i => some i
  | .error _ => none

end Sys2Proof
end

