-- ==== Sys2Proof/Machine/State.lean ====
section
/-! DEFINITION. The state of the machine: the engine state of 10_state.md R20, and what a model keeps beside it (the
configuration, the transport's draws, the device agent, the history, the host agent and the external actions that have
arrived). All of it is plain data. -/

namespace Sys2Proof.Machine

/-- `SEQ_PHASE` (R23). The reserved values 0xC to 0xF are never entered and have no constructor (log entry 14). -/
inductive Phase where
  /-- 0x0: no host operation in progress. -/
  | ready
  /-- 0x1: the CRC operation. -/
  | crcRun
  /-- 0x2: the empty write to `GENERAL_CALL_ADDR`. -/
  | wakeTx
  /-- 0x3: the `T_WAKE_US` delay. -/
  | wakeSettle
  /-- 0x4: receiving the ready response. -/
  | wakeRx
  /-- 0x5: writing a command frame. -/
  | cmdTx
  /-- 0x6: the settle delay after a command. -/
  | settle
  /-- 0x7: receiving a response frame. -/
  | respRx
  /-- 0x8: the delay before the final idle. -/
  | drain
  /-- 0x9: writing the idle word. -/
  | idleTx
  /-- 0xA: writing the sleep word. -/
  | sleepTx
  /-- 0xB: the WAIT operation's delay. -/
  | delay
  deriving DecidableEq, Repr

/-- The reasons of a model fault (60_exceptions.md R267). -/
inductive FaultReason where
  /-- A malformed descriptor, a descriptor issued while BUSY, a read of a value not held, a register write. -/
  | hostProtocol
  /-- P > `MAX_PAYLOAD` or n > 252. -/
  | invariant
  /-- The transport returned more bytes than requested. -/
  | transportContract
  deriving DecidableEq, Repr

/-- `RESULT` (R26). `err` and `data` hold no value until an operation has recorded one (R26, R39; log entry 6). -/
structure Result where
  /-- `RESULT.VALID`. -/
  valid : Bool
  /-- `RESULT.ERR`. -/
  err : Option Byte
  /-- `RESULT.DATA`. -/
  data : Option (List Byte)
  deriving DecidableEq, Repr

/-- A buffer's contents: (index, byte) pairs, indices strictly rising. An index that is not listed holds no value
(R31, R32). -/
abbrev Memory := List Host.Cell

/-- One bus or timer event of the history (R10, R11, R71). -/
inductive Event where
  /-- `BusInit(BUS_CLOCK)`. -/
  | busInit (clock : Nat)
  /-- `BusWrite(addr, bytes) -> status`. -/
  | busWrite (addr : Nat) (bytes : List Byte) (status : Byte)
  /-- `BusRead(addr, requested) -> bytes`. -/
  | busRead (addr : Nat) (requested : Nat) (bytes : List Byte)
  /-- `DelayMs(t)`. -/
  | delayMs (t : Nat)
  /-- `DelayUs(t)`. -/
  | delayUs (t : Nat)
  deriving DecidableEq, Repr

/-- The transport agent's coming answers (R5, R10). Where the lists end, the answers are free values indexed by
`drawn` (log entry 3). -/
structure Transport where
  /-- The statuses of the coming `BusWrite` calls. -/
  statuses : List Byte
  /-- The bytes of the coming `BusRead` calls. -/
  answers : List (List Byte)
  /-- How many free values have been drawn. -/
  drawn : Nat
  /-- Whether `BusInit` was performed (70_reset_and_hazards.md R293). -/
  initDone : Bool
  /-- The model's own: whether it had been when the latest host operation was issued (R293; log entry 21). -/
  issuedAfterInit : Bool
  /-- The model's own: `issuedAfterInit` as it stood at the latest `BusWrite` (R293; log entry 21). -/
  sentAfterInit : Bool
  deriving DecidableEq, Repr

/-- `DEV_STATE` (R37). -/
inductive DevState where
  | asleep
  | idle
  | executing
  | unknown
  deriving DecidableEq, Repr

/-- The device agent as far as the spec describes it (R37, R38; 42_sequencer.md R181). The engine never reads it. -/
structure Device where
  /-- `DEV_STATE`. -/
  devState : DevState
  /-- A W-WAKE has reached the sleeping device and its settle time has not passed (R181, first row). -/
  waking : Bool
  /-- The ready response `04 11 33 43` is pending (R181, first row). -/
  readyPending : Bool
  /-- `LAST_CMD`: the value of `elapsedUs` at the last successful command frame write (R38). -/
  lastCmd : Option Nat
  /-- `REQ_SETTLE`: that command's settle minimum in milliseconds, where the spec has one (R38, R296). -/
  reqSettle : Option Nat
  /-- The model's own: that command's response length, where its profile is one of 43_commands.md; the premise R198 (b)
  speaks of it (log entry 31). -/
  respLength : Option Nat
  deriving DecidableEq, Repr

/-- The host-visible registers (R27). -/
inductive HostReg where
  | status
  | err
  | crcOut
  | data
  | phase
  deriving DecidableEq, Repr

/-- What a read of a host-visible register gives, with the register's width (R27). -/
inductive RegValue where
  /-- STATUS, ERR. -/
  | byte (v : Byte)
  /-- CRC_OUT. -/
  | word (v : U16)
  /-- DATA. -/
  | bytes (v : List Byte)
  /-- PHASE. -/
  | nibble (v : BitVec 4)
  deriving DecidableEq, Repr

/-- One line of a listing (30_encoding.md R120, R121), or a raw descriptor in its place (95_test_vectors.md P7). -/
inductive LineOp where
  /-- A line of assembler: the instruction it names. -/
  | assembly (i : Instr)
  /-- A descriptor given as bytes. -/
  | raw (descriptor : List Byte)
  deriving DecidableEq, Repr

/-- A line with its best-effort mark `?` (R121). -/
structure Line where
  /-- The operation. -/
  op : LineOp
  /-- Whether the line ends in `?`. -/
  bestEffort : Bool
  deriving DecidableEq, Repr

/-- What the host keeps of one line's end: `RESULT`, and the u16 that a CRC line ends with (R12, R121, R134). -/
structure LineResult where
  /-- `RESULT` as the line left it. -/
  result : Result
  /-- The checksum of a CRC line; `none` for any other. -/
  crc : Option U16
  deriving DecidableEq, Repr

/-- The host agent (R5, R22, R121). -/
structure HostAgent where
  /-- The lines not yet issued. -/
  program : List Line
  /-- The line in progress. -/
  inFlight : Option Line
  /-- The failure code of the line that ended the program, if one did. -/
  stopped : Option Byte
  /-- The results of the lines, in order. -/
  results : List LineResult
  /-- The registers read so far, in order. -/
  reads : List (HostReg × RegValue)
  deriving DecidableEq, Repr

/-- An external action that arrives between two steps. -/
inductive Input where
  /-- The host issues a descriptor (R103). -/
  | issue (descriptor : List Byte)
  /-- The host starts a listing (R121). -/
  | start (lines : List Line)
  /-- The host reads a register (R27). -/
  | readReg (r : HostReg)
  /-- The host writes a register (R27). -/
  | writeReg (r : HostReg) (v : List Byte)
  /-- `BusInit` (R293). -/
  | busInit
  /-- Engine reset (R290). -/
  | engineReset
  /-- The device is powered on (R292). -/
  | devicePowerOn
  /-- The device times out to Asleep (42_sequencer.md R182). -/
  | deviceTimeout
  /-- No external action: the engine, or the host's listing, takes this step. -/
  | engineTurn
  deriving DecidableEq, Repr

/-- Why the machine stops. Neither is the spec's `raise Fault`, which is a next state with `FAULT` set (R267). -/
inductive Fault where
  /-- Raised where a faulted engine would have to take a step: while `FAULT = 1` it takes none (R267). Safe. -/
  | engineFaulted
  /-- Raised where `SEQ_PHASE` is none of the phases of the operation in progress, an impossible state that the spec
  makes stuck (R23, 93 U10). Safe. -/
  | impossiblePhase
  deriving DecidableEq, Repr

/-- Why the machine has no meaning for an instruction. -/
inductive Refusal where
  /-- An instruction of the table that has no meaning yet; no arm answers with it. Safe. -/
  | notModelled (mnemonic : String)
  deriving DecidableEq, Repr

/-- The state. The first thirteen fields are R20's record, in its order. -/
structure State where
  /-- `SEQ_PHASE` (R23). -/
  seqPhase : Phase
  /-- `CUR_OP`: the host operation in progress (R20). -/
  curOp : Option Instr
  /-- `CRC_ACC` (R28). -/
  crcAcc : U16
  /-- `CRC_BIT` (R29). -/
  crcBit : BitVec 3
  /-- `CRC_OUT` (R30). -/
  crcOut : Option U16
  /-- `TXBUF` (R31). -/
  txbuf : Memory
  /-- `TXLEN` (R31). -/
  txlen : Nat
  /-- `RXBUF` (R32). -/
  rxbuf : Memory
  /-- `RXLEN` (R32). -/
  rxlen : Nat
  /-- `ATTEMPTS` (R33). -/
  attempts : Nat
  /-- `RESULT` (R26). -/
  result : Result
  /-- `FAULT` (R34). -/
  fault : Bool
  /-- `FAULT_REASON` (R34). -/
  faultReason : Option FaultReason
  /-- The configuration, fixed for the life of the handle (R7, R20, R40; log entry 2). -/
  cfg : Config.Handle
  /-- The transport agent. -/
  transport : Transport
  /-- The device agent. -/
  device : Device
  /-- The lower bound, in microseconds, on the time that has passed (R11). -/
  elapsedUs : Nat
  /-- The history of bus and timer events, newest first (R10). -/
  events : List Event
  /-- The host agent. -/
  host : HostAgent
  /-- The external actions that have arrived and not been taken. -/
  inbox : List Input
  deriving DecidableEq, Repr

/-- The parameters of the configuration. -/
abbrev State.params (s : State) : Config.Params := s.cfg.params

/-- `BUSY = (SEQ_PHASE ≠ READY)` (R24). -/
def State.busy (s : State) : Bool := decide (s.seqPhase ≠ .ready)

/-- The machine right after reset: R20's fields as R39 states them; the device UNKNOWN (R37; log entry 8); of the
timing ghost R39 gives `LAST_CMD = none` alone, and that `REQ_SETTLE` is none too is the model's choice (log entry 30); the
model's own fields empty (log entry 20). -/
def State.reset : State where
  seqPhase := .ready
  curOp := none
  crcAcc := 0x0000#16
  crcBit := 0#3
  crcOut := none
  txbuf := []
  txlen := 0
  rxbuf := []
  rxlen := 0
  attempts := 0
  result := ⟨false, none, none⟩
  fault := false
  faultReason := none
  cfg := Config.handle
  transport := ⟨[], [], 0, false, false, false⟩
  device := ⟨.unknown, false, false, none, none, none⟩
  elapsedUs := 0
  events := []
  host := ⟨[], none, none, [], []⟩
  inbox := []

end Sys2Proof.Machine
end

