-- ==== Sys2Proof/Machine/Ops.lean ====
section
/-! DEFINITION. The named operations: the buffers (`MemRead`, `MemWrite` of 00_scope.md R10), taking a model fault and
the engine reset that alone ends it (60_exceptions.md R267, R290), accepting an operation and recording its outcome
(10_state.md R26), and the bus and timer events (R10, R11). -/

namespace Sys2Proof.Machine

/-- What one step answers. -/
abbrev Out := Host.Outcome State Fault Refusal

/-! ## Buffers -/

/-- The byte at an index; `none` where it holds no value (R31, R32). -/
def memGet : Memory → Nat → Option Byte
  | [], _ => none
  | (a, b) :: m, i => if a = i then some b else memGet m i

/-- One byte written, indices kept strictly rising. -/
def memSet : Memory → Nat → Byte → Memory
  | [], i, v => [(i, v)]
  | (a, b) :: m, i, v =>
    if i < a then (i, v) :: (a, b) :: m
    else if i = a then (i, v) :: m
    else (a, b) :: memSet m i v

/-- `MemWrite(buf, i, s)` (R10): the bytes of `s` at `i`, `i + 1`, …. -/
def memWrite : Memory → Nat → List Byte → Memory
  | m, _, [] => m
  | m, i, v :: s => memWrite (memSet m i v) (i + 1) s

/-- `MemRead(buf, i, n)` (R10): `none` where one of the bytes holds no value. -/
def memRead (m : Memory) (i : Nat) : Nat → Option (List Byte)
  | 0 => some []
  | n + 1 =>
    match memGet m i, memRead m (i + 1) n with
    | some b, some s => some (b :: s)
    | _, _ => none

/-- The canonical form: indices strictly rising. An unlisted index holds no value, which no entry equals. -/
def memWf (m : Memory) : Bool := decide ((m.map Prod.fst).Pairwise (· < ·))

/-- A buffer that holds exactly `s` from index 0: the bytes at and above its length hold no value (R31, R32). -/
def bufferOf (s : List Byte) : Memory := memWrite [] 0 s

/-- `TXBUF` and `TXLEN` written whole (R31, R151, R187). -/
def loadTx (s : List Byte) (st : State) : State := { st with txbuf := bufferOf s, txlen := s.length }

/-- `TXBUF[0..TXLEN)`. -/
def txBytes (st : State) : List Byte := (memRead st.txbuf 0 st.txlen).getD []

/-- `RXBUF` and `RXLEN` written by one attempt (R32, R155). -/
def loadRx (s : List Byte) (st : State) : State := { st with rxbuf := bufferOf s, rxlen := s.length }

/-- `RXBUF[1 .. 1+n)`, the payload of the last validated frame (R160). -/
def rxPayload (n : Nat) (st : State) : List Byte := (memRead st.rxbuf 1 n).getD []

/-! ## The checksum unit in the state -/

/-- One whole computation: clear, then every byte (R130, R133, R137). -/
def runCrc (s : List Byte) (st : State) : State := { st with crcAcc := (crcRun s).acc, crcBit := (crcRun s).bit }

/-! ## Model faults and reset -/

/-- Taking a model fault (R267): `FAULT <- 1` and `FAULT_REASON <- reason`, and nothing else changes: `RESULT` is not
written, and `SEQ_PHASE` and `CUR_OP` stay (log entry 4). -/
def raiseFault (r : FaultReason) (s : State) : State := { s with fault := true, faultReason := some r }

/-- The engine reset (R290), the only event that clears `FAULT`: R20's fields take the values of R39; the device is
UNKNOWN (R37, R292) and `LAST_CMD` none (R39), and by the model's choice `REQ_SETTLE` too (log entry 30); the host starts anew, so that a listing it has dropped reads ok
from then on (log entry 12); the configuration, the transport, the history and the time go on (R40). -/
def engineReset (s : State) : State :=
  { s with
    seqPhase := .ready, curOp := none, crcAcc := Config.CRC_INIT, crcBit := 0#3, crcOut := none
    txbuf := [], txlen := 0, rxbuf := [], rxlen := 0, attempts := 0
    result := ⟨false, none, none⟩, fault := false, faultReason := none
    device := ⟨.unknown, false, false, none, none, none⟩
    host := { s.host with program := [], inFlight := none, stopped := none, results := [] } }

/-! ## The first and the last step of an operation -/

/-- The value a failure code has in `RESULT.ERR` (60_exceptions.md R261). -/
def ErrCode.toByte : ErrCode → Byte
  | .ok => 0x00#8
  | .transportWrite => 0x10#8
  | .transportRead => 0x11#8
  | .integrityLength => 0x20#8
  | .integrityChecksum => 0x21#8
  | .deviceStatus => 0x30#8
  | .readinessWakeCode => 0x40#8
  | .readinessWakeNoresp => 0x41#8
  | .readinessVersion => 0x42#8
  | .argument => 0x50#8

/-- The last step (R26, R270): `RESULT` is written whole and the engine returns to READY. A failure leaves the device
agent as it is (R193, R199): after 95_test_vectors.md P2 it stays EXECUTING where P2 calls it UNKNOWN (log entry 9). -/
def finish (c : ErrCode) (data : List Byte) (s : State) : State :=
  { s with result := ⟨true, some c.toByte, some data⟩, seqPhase := .ready, curOp := none }

/-- The transport as a host operation is issued: R293 asks whether `BusInit` came before it (log entry 21). -/
def Transport.afterIssue (t : Transport) : Transport := { t with issuedAfterInit := t.initDone }

/-- The first step (R26): `VALID` is cleared, `CUR_OP` is set and the operation's first phase entered. -/
def beginOp (op : Instr) (p : Phase) (s : State) : State :=
  { s with
    result := { s.result with valid := false }, curOp := some op, seqPhase := p
    transport := s.transport.afterIssue }

/-- Entering `frame_recv` (R155): the phase is set and `ATTEMPTS <- 0`. -/
def enterRecv (p : Phase) (s : State) : State := { s with seqPhase := p, attempts := 0 }

/-! ## Bus and timer events -/

/-- The status that the next `BusWrite` will have (R10). -/
def nextStatus (s : State) : Byte := s.transport.statuses.headD (Config.freeStatus s.transport.drawn)

/-- The bytes that the next `BusRead` will return (R10). -/
def nextAnswer (s : State) : List Byte := s.transport.answers.headD (Config.freeAnswer s.transport.drawn)

/-- The transport after a `BusWrite` has taken its status; it notes whether the operation that writes was issued after
`BusInit` (R293; log entry 21). -/
def Transport.afterStatus (t : Transport) : Transport :=
  let u := { t with sentAfterInit := t.issuedAfterInit }
  match t.statuses with
  | [] => { u with drawn := t.drawn + 1 }
  | _ :: rest => { u with statuses := rest }

/-- The transport after an answer was taken. -/
def Transport.afterAnswer (t : Transport) : Transport :=
  match t.answers with
  | [] => { t with drawn := t.drawn + 1 }
  | _ :: rest => { t with answers := rest }

/-- `BusWrite(addr, bytes)` (R10): one event; its status is `nextStatus` of the state before. -/
def busWrite (addr : Nat) (bytes : List Byte) (s : State) : State :=
  { s with
    transport := s.transport.afterStatus
    events := .busWrite addr bytes (nextStatus s) :: s.events }

/-- The event of a `BusRead(addr, k)` that returned `bytes` (R10). -/
def recordRead (addr k : Nat) (bytes : List Byte) (s : State) : State :=
  { s with events := .busRead addr k bytes :: s.events }

/-- The transport's next answer taken. -/
def takeAnswer (s : State) : State := { s with transport := s.transport.afterAnswer }

/-- `DelayMs(t)` (R11). -/
def delayMs (t : Nat) (s : State) : State :=
  { s with elapsedUs := s.elapsedUs + 1000 * t, events := .delayMs t :: s.events }

/-- `DelayUs(t)` (R11). -/
def delayUs (t : Nat) (s : State) : State :=
  { s with elapsedUs := s.elapsedUs + t, events := .delayUs t :: s.events }

/-- `BusInit(BUS_CLOCK)` (R10, R293), the host's call: one event. -/
def busInit (s : State) : State :=
  { s with
    transport := { s.transport with initDone := true }
    events := .busInit s.params.busClock :: s.events }

end Sys2Proof.Machine
end

