-- ==== Sys2Proof/Machine/Device.lean ====
section
/-! DEFINITION. The device agent's transitions (42_sequencer.md R181, R182) and the timing ghost (10_state.md R38).
Nothing of the engine depends on this file: it serves the premises of R198 and the hazards of 70_reset_and_hazards.md.
Transitions that R181 does not give lead to UNKNOWN (92 D18; log entry 9). -/

namespace Sys2Proof.Machine

/-- The settle minimum in milliseconds of the command with the given opcode (R296), the largest where several
commands share the opcode; `none` for an opcode that is no command's (log entry 10). -/
def settleMinimum (p : Config.Params) (opcode : Byte) : Option Nat :=
  (([(p.opRandom, Config.T_RANDOM_MS), (p.opGenkey, Config.T_GENKEY_MS), (p.opNonce, p.tNonceMs),
     (p.opSign, Config.T_SIGN_MS), (p.opVerify, Config.T_VERIFY_MS), (p.opRead, Config.T_READ_MS),
     (p.opWrite, Config.T_WRITE_MS), (p.opLock, Config.T_LOCK_MS), (p.opInfo, p.tInfoMs)].filter
      (fun r => r.1 == opcode)).map (fun r => r.2.toNat)).max?

/-- W-WAKE: a device in ASLEEP or UNKNOWN begins to wake; in IDLE or EXECUTING the outcome is not given (R181). -/
def Device.onWake (d : Device) : Device :=
  match d.devState with
  | .asleep => { d with waking := true }
  | .unknown => { d with waking := true }
  | .idle => { d with devState := .unknown, waking := false, readyPending := false }
  | .executing => { d with devState := .unknown, waking := false, readyPending := false }

/-- The wake settle time has passed: a waking device is in IDLE with its ready response pending (R181). That it has passed
once the engine has delayed `T_WAKE_US` is the model's choice (log entry 9). -/
def Device.onWakeSettle (d : Device) : Device :=
  if d.waking then { d with devState := .idle, waking := false, readyPending := true } else d

/-- What tells a command of 43_commands.md in its frame, and the length of its response. -/
structure Profile where
  /-- The opcode. -/
  opcode : Byte
  /-- param1. -/
  p1 : Byte
  /-- param2, where the profile fixes it; a slot or a word index is free. -/
  p2 : Option U16
  /-- How many payload bytes it carries. -/
  payloadLength : Nat
  /-- n, how many payload bytes its response has. -/
  responseLength : Nat
  deriving DecidableEq, Repr

/-- The profiles of the zone commands for one zone (R226, R227, R229, R230). -/
def zoneProfiles (p : Config.Params) (z : Zone) : List Profile :=
  [⟨p.opRead, zoneSelector4 z, none, 0, 4⟩, ⟨p.opRead, zoneSelector32 p z, none, 0, 32⟩,
   ⟨p.opWrite, zoneSelector4 z, none, 4, 1⟩, ⟨p.opWrite, zoneSelector32 p z, none, 32, 1⟩]

/-- The command profiles (R220 to R233). -/
def profiles (p : Config.Params) : List Profile :=
  [⟨p.opRandom, p.randomP1, some p.randomP2, 0, 32⟩, ⟨p.opGenkey, p.genkeyModeCreate, none, 0, 64⟩,
   ⟨p.opGenkey, p.genkeyModePublic, none, 0, 64⟩, ⟨p.opNonce, p.nonceMode, some p.nonceP2, 32, 1⟩,
   ⟨p.opSign, p.signMode, none, 0, 64⟩, ⟨p.opVerify, p.verifyMode, some p.verifyCurveP256, 128, 1⟩,
   ⟨p.opLock, p.lockSelConfig, some p.lockP2, 0, 1⟩, ⟨p.opLock, p.lockSelDataOtp, some p.lockP2, 0, 1⟩,
   ⟨p.opInfo, p.infoMode, some p.infoP2, 0, 4⟩] ++
  (zoneProfiles p .config ++ zoneProfiles p .otp ++ zoneProfiles p .data)

/-- Whether a command frame is one of the profile. -/
def Profile.fits (r : Profile) (opcode p1 : Byte) (p2 : U16) (payload : List Byte) : Bool :=
  decide (r.opcode = opcode) && decide (r.p1 = p1) && r.p2.all (fun v => v == p2) &&
    decide (r.payloadLength = payload.length)

/-- The response length n of a command (R198 (b)); `none` where its frame is of no profile, or of several with different
lengths (log entry 31). -/
def responseLength (p : Config.Params) (opcode p1 : Byte) (p2 : U16) (payload : List Byte) : Option Nat :=
  match ((profiles p).filter fun r => r.fits opcode p1 p2 payload).map Profile.responseLength with
  | [] => none
  | n :: rest => if rest.all (· == n) then some n else none

/-- The timing ghost is written at each successful write of a command frame (R38), with the model's note of the
command's response length (log entry 31). -/
def Device.noteCommand (p : Config.Params) (opcode p1 : Byte) (p2 : U16) (payload : List Byte) (now : Nat)
    (d : Device) : Device :=
  { d with
    lastCmd := some now, reqSettle := settleMinimum p opcode
    respLength := responseLength p opcode p1 p2 payload }

/-- `DEV_STATE` after W-CMD with the given status (R181): IDLE goes to EXECUTING on status 0, ASLEEP ignores it. -/
def devStateAfterCommand (status : Byte) : DevState → DevState
  | .asleep => .asleep
  | .idle => if status = 0#8 then .executing else .unknown
  | .executing => .unknown
  | .unknown => .unknown

/-- W-CMD (R38, R181). -/
def Device.onCommand (p : Config.Params) (opcode p1 : Byte) (p2 : U16) (payload : List Byte) (status : Byte) (now : Nat)
    (d : Device) : Device :=
  let d' := { d with devState := devStateAfterCommand status d.devState, readyPending := false }
  if status = 0#8 then d'.noteCommand p opcode p1 p2 payload now else d'

/-- W-IDLE (R181), whatever its status: IDLE stays IDLE, ASLEEP ignores it. That a ready response is no longer pending
after it is the model's choice (log entry 9). -/
def Device.onIdle (d : Device) : Device :=
  match d.devState with
  | .asleep => d
  | .idle => { d with readyPending := false }
  | .executing => { d with devState := .unknown, readyPending := false }
  | .unknown => d

/-- W-SLEEP (R181), whatever its status: IDLE goes to ASLEEP, ASLEEP ignores it. -/
def Device.onSleep (d : Device) : Device :=
  match d.devState with
  | .asleep => d
  | .idle => { d with devState := .asleep, readyPending := false }
  | .executing => { d with devState := .unknown, readyPending := false }
  | .unknown => d

/-- Whether the last command's settle minimum has passed at `now` (R38, R296); `none` where the ghost cannot say. `now` is a
lower bound and nothing bounds the time from above (R11): `some true` is certain, and that a lower bound below the minimum
counts as not settled is the model's choice (log entry 9). -/
def Device.settled? (now : Nat) (d : Device) : Option Bool :=
  match d.lastCmd, d.reqSettle with
  | some t, some ms => some (decide (t + 1000 * ms ≤ now))
  | _, _ => none

/-- A full-length read (R181): EXECUTING goes to IDLE once the settle time has passed and the response is read; the
ready response is consumed. R181 does not say which read reads the response: that every full-length read does, whatever
length it requests and whether or not it validates, and that an early one, judged by the lower bound on time (R11), leaves
EXECUTING, is the model's choice (log entry 9). -/
def Device.onFullRead (now : Nat) (d : Device) : Device :=
  match d.devState with
  | .executing =>
    match d.settled? now with
    | some true => { d with devState := .idle }
    | some false => d
    | none => { d with devState := .unknown }
  | .idle => { d with readyPending := false }
  | .asleep => d
  | .unknown => d

/-- The self-timeout (R182): from any state to ASLEEP. One that falls between W-WAKE and the end of its settle cancels
the waking, so that the device stays ASLEEP after the settle: the model's choice (log entry 33). -/
def Device.onTimeout (d : Device) : Device := { d with devState := .asleep, waking := false, readyPending := false }

/-- Device power-on (R292): ASLEEP. R38 and R39 do not say that a power-on empties the timing ghost: that it does, with
nothing pending and no command known, is the model's choice (log entry 30). -/
def Device.poweredOn : Device := ⟨.asleep, false, false, none, none, none⟩

end Sys2Proof.Machine
end

