-- ==== Sys2Proof/Machine/Flags.lean ====
section
/-! DEFINITION. The status view and the failure codes: the STATUS register (10_state.md R27), the other host-visible
registers, and the categories of 60_exceptions.md R261. The engine has no arithmetic flags (R25). -/

namespace Sys2Proof.Machine

/-- The 4-bit encoding of `SEQ_PHASE` (R23). -/
def phaseCode : Phase → BitVec 4
  | .ready => 0x0#4
  | .crcRun => 0x1#4
  | .wakeTx => 0x2#4
  | .wakeSettle => 0x3#4
  | .wakeRx => 0x4#4
  | .cmdTx => 0x5#4
  | .settle => 0x6#4
  | .respRx => 0x7#4
  | .drain => 0x8#4
  | .idleTx => 0x9#4
  | .sleepTx => 0xA#4
  | .delay => 0xB#4

/-- STATUS.OK: `RESULT.VALID = 1 and RESULT.ERR = 0x00` (R27). -/
def statusOk (s : State) : Bool := s.result.valid && decide (s.result.err = some 0x00#8)

/-- The layout of STATUS (R27): BUSY, FAULT, VALID, OK in bits 0 to 3; bits 7:4 read 0. -/
def statusBits (busy fault valid ok : Bool) : Byte :=
  (if busy then 0x01#8 else 0x00#8) ||| (if fault then 0x02#8 else 0x00#8) |||
  (if valid then 0x04#8 else 0x00#8) ||| (if ok then 0x08#8 else 0x00#8)

/-- The STATUS register (R27). -/
def statusByte (s : State) : Byte := statusBits s.busy s.fault s.result.valid (statusOk s)

/-- The value of a host-visible register; `none` where it holds none (R26, R27). -/
def regValue (s : State) : HostReg → Option RegValue
  | .status => some (.byte (statusByte s))
  | .err => if s.result.valid then s.result.err.map .byte else none
  | .crcOut => s.crcOut.map .word
  | .data => if s.result.valid then s.result.data.map .bytes else none
  | .phase => some (.nibble (phaseCode s.seqPhase))

/-- The §7 category of a failure code is its high nibble (R261). -/
def ErrCode.category (c : ErrCode) : BitVec 4 := c.toByte.extractLsb' 4 4

/-- The codes an engine operation can record (R261): all but the client's two. -/
def ErrCode.isEngine : ErrCode → Bool
  | .readinessVersion => false
  | .argument => false
  | .ok => true
  | .transportWrite => true
  | .transportRead => true
  | .integrityLength => true
  | .integrityChecksum => true
  | .deviceStatus => true
  | .readinessWakeCode => true
  | .readinessWakeNoresp => true

/-- The codes of R261's table. -/
def engineCodes : List Byte := [0x00#8, 0x10#8, 0x11#8, 0x20#8, 0x21#8, 0x30#8, 0x40#8, 0x41#8]

/-- What the public boundary makes of a code (R266): success or failure. -/
def publicSuccess (code : Byte) : Bool := code == 0x00#8

/-- The status byte of a one-byte status response means acceptance iff it is 0x00 (R198 (f), R264). -/
def statusAccepted (data : List Byte) : Bool := data.getD 0 0#8 == 0x00#8

end Sys2Proof.Machine
end

