-- ==== Sys2Proof/Machine/Wire.lean ====
section
/-! DEFINITION. The five wire formats as bus events (30_encoding.md R90 to R99; 20_memory.md R69 to R71): each is one
indivisible access with its effect on the buffers, the checksum unit, the history and the device. The host operations
perform their bus events through these; as rows of the opcode table they are the events alone (log entry 16). -/

namespace Sys2Proof.Machine

/-- W-WAKE (R99, R184): one empty write to `GENERAL_CALL_ADDR`. -/
def transmitWake (s : State) : State :=
  let t := busWrite s.params.generalCallAddr [] s
  { t with device := t.device.onWake }

/-- W-IDLE (R97, R187): `TXBUF[0] <- WORD_IDLE`, `TXLEN <- 1`, one write. -/
def transmitIdle (s : State) : State :=
  let t := loadTx [s.params.wordIdle] s
  let u := busWrite t.params.devAddr (txBytes t) t
  { u with device := u.device.onIdle }

/-- W-SLEEP (R98, R188), as W-IDLE with `WORD_SLEEP`. -/
def transmitSleep (s : State) : State :=
  let t := loadTx [s.params.wordSleep] s
  let u := busWrite t.params.devAddr (txBytes t) t
  { u with device := u.device.onSleep }

/-- The frame of R151 in `TXBUF`, its checksum computed by the Checksum Engine. -/
def buildCommand (opcode p1 : Byte) (p2 : U16) (payload : List Byte) (s : State) : State :=
  loadTx (commandFrame opcode p1 p2 payload) (runCrc (commandBody opcode p1 p2 payload) s)

/-- W-CMD (R91, R151, R152): the frame is built and written as one write. -/
def transmitCommand (opcode p1 : Byte) (p2 : U16) (payload : List Byte) (s : State) : State :=
  let t := buildCommand opcode p1 p2 payload s
  let u := busWrite t.params.devAddr (txBytes t) t
  { u with device := u.device.onCommand u.params opcode p1 p2 payload (nextStatus t) u.elapsedUs }

/-- One attempt's read is recorded and counted (R155). -/
def countAttempt (k : Nat) (bytes : List Byte) (s : State) : State :=
  let t := recordRead s.params.devAddr k bytes s
  { t with attempts := t.attempts + 1 }

/-- The bytes of one attempt enter `RXBUF` (R155). That a full-length read is the one that reads the device's response
(R181), whatever its bytes, is the model's choice (log entry 9). -/
def acceptBytes (k : Nat) (bytes : List Byte) (s : State) : State :=
  let t := loadRx bytes s
  if bytes.length = k then { t with device := t.device.onFullRead t.elapsedUs } else t

/-- The validation's use of the Checksum Engine: the checksum is computed only after the length byte has passed
(R157, R158; 95_test_vectors.md P6). -/
def checkBytes (k : Nat) (bytes : List Byte) (s : State) : State :=
  if lengthByteOk k bytes then runCrc (coveredBytes k bytes) s else s

/-- What one attempt ends in (R155 to R160, R268). -/
inductive Reception where
  /-- More bytes than requested: the transport broke its contract (R156). -/
  | overrun
  /-- Short, and attempts are left (R155). -/
  | again
  /-- Short at the last attempt, or a full-length read that does not validate. -/
  | failed (c : ErrCode)
  /-- Validated: the payload (R160). -/
  | payload (data : List Byte)
  deriving DecidableEq, Repr

/-- The verdict on one attempt's bytes, when `attempts` reads have been made, this one included (R155, R268). -/
def judge (k attempts limit : Nat) (bytes : List Byte) : Reception :=
  if k < bytes.length then .overrun
  else if bytes.length < k then if attempts = limit then .failed .transportRead else .again
  else
    match validateFrame k bytes with
    | .ok data => .payload data
    | .error c => .failed c

/-- What the bytes of a recorded read do (R155, R157, R158). An overrun leaves `RXBUF` as it was (log entry 5), and, by the
model's choice, the device too: it does not count as a read of the response (log entry 9). -/
def storeBytes (k : Nat) (bytes : List Byte) (s : State) : State :=
  if k < bytes.length then s
  else if bytes.length < k then acceptBytes k bytes s
  else checkBytes k bytes (acceptBytes k bytes s)

/-- The state after one attempt of a RECV that returned `bytes` (R33, R155, R157, R158). -/
def receiveBytes (k : Nat) (bytes : List Byte) (s : State) : State := storeBytes k bytes (countAttempt k bytes s)

/-- A wire format as a row of the table: the bus event, which a faulted engine does not perform (R267). -/
def onBus (f : State → State) (s : State) : Out :=
  if s.fault then .fault .engineFaulted else .next (f s)

/-- An event whose frame's length byte bounds its payload: beyond the bound it is `Fault(INVARIANT)` and no event. R153
and R161 say so of the host operations; that the rows W-CMD and W-RSP keep the same bounds by themselves, so that L
never wraps, is the model's choice (log entry 16). -/
def bounded (within : Bool) (f : State → State) (s : State) : State :=
  if within then f s else raiseFault .invariant s

/-- W-CMD (R91), with a payload of at most `MAX_PAYLOAD` bytes (R153; log entry 16). -/
def execWCmd (opcode p1 : Byte) (p2 : U16) (payload : List Byte) (s : State) : Out :=
  onBus (bounded (decide (payload.length ≤ s.params.maxPayload)) (transmitCommand opcode p1 p2 payload)) s

/-- W-RSP (R95): one read of n + 3 bytes, n ≤ 252 (R161; log entry 16), that the device answers with the valid frame of
the payload. `ATTEMPTS` counts the reads of the RECV in progress (R33). A row executed by itself is no RECV's read, so that
`ATTEMPTS` stays as it is (log entry 16). -/
def execWRsp (payload : List Byte) (s : State) : Out :=
  onBus (bounded (decide (payload.length ≤ Config.MAX_EXPECTED))
    (fun s => storeBytes (payload.length + 3) (responseFrame payload)
      (recordRead s.params.devAddr (payload.length + 3) (responseFrame payload) s))) s

/-- W-IDLE (R97). -/
def execWIdle (s : State) : Out := onBus transmitIdle s

/-- W-SLEEP (R98). -/
def execWSleep (s : State) : Out := onBus transmitSleep s

/-- W-WAKE (R99). -/
def execWWake (s : State) : Out := onBus transmitWake s

end Sys2Proof.Machine
end

