-- ==== Sys2Proof/Machine/HostOps.lean ====
section
/-! DEFINITION. What every host operation shares: its first step with the checks before it (30_encoding.md R113, R114;
42_sequencer.md R196), its first phase (R197), and its going on while it is the operation in progress. -/

namespace Sys2Proof.Machine

/-- The first phase of each host operation (R197). No other instruction becomes the operation in progress. -/
def firstPhase : Instr → Phase
  | .crc _ => .crcRun
  | .send _ _ _ _ => .cmdTx
  | .recv _ => .respRx
  | .wake => .wakeTx
  | .idle => .idleTx
  | .sleep => .sleepTx
  | .wait _ => .delay
  | .exch _ _ _ _ _ _ _ => .cmdTx
  | .xact _ _ _ _ _ _ _ _ => .wakeTx
  | _ => .ready

/-- The operand limits that raise `Fault(INVARIANT)` (R114, R153, R161): P ≤ `MAX_PAYLOAD` and n ≤ 252. -/
def withinLimits (p : Config.Params) : Instr → Bool
  | .send _ _ _ payload => decide (payload.length ≤ p.maxPayload)
  | .recv n => decide (n.toNat ≤ Config.MAX_EXPECTED)
  | .exch _ _ _ _ n _ payload => decide (payload.length ≤ p.maxPayload) && decide (n.toNat ≤ Config.MAX_EXPECTED)
  | .xact _ _ _ _ n _ _ payload => decide (payload.length ≤ p.maxPayload) && decide (n.toNat ≤ Config.MAX_EXPECTED)
  | _ => true

/-- RECV enters `frame_recv` at its first step, which clears `ATTEMPTS` (R155). -/
def clearsAttempts : Instr → Bool
  | .recv _ => true
  | _ => false

/-- The state after the first step (R26). -/
def accepted (op : Instr) (s : State) : State :=
  let t := beginOp op (firstPhase op) s
  if clearsAttempts op then enterRecv (firstPhase op) t else t

/-- The first step, in READY: the checks in R268's order, then acceptance (R26, R113, R114). -/
def accept (op : Instr) (s : State) : State :=
  if !op.wf then raiseFault .hostProtocol s
  else if !withinLimits s.params op then raiseFault .invariant s
  else accepted op s

/-- One engine step of the host operation `op`: nothing while faulted (R267), its first step in READY, the next event
of its phases while it is the operation in progress, and `Fault(HOST_PROTOCOL)` while another one is (R196). -/
def hostOp (op : Instr) (goOn : State → Out) (s : State) : Out :=
  if s.fault then .fault .engineFaulted
  else if s.seqPhase = .ready then .next (accept op s)
  else if s.curOp = some op then goOn s
  else .next (raiseFault .hostProtocol s)

end Sys2Proof.Machine
end

