-- ==== Sys2Proof/Machine/Framer.lean ====
section
/-! DEFINITION. The Framer (41_framer.md): the steps of `frame_send` and `frame_recv`, and the host operations SEND and
RECV that expose them. A step that can end the operation takes the continuation of the operation it serves. -/

namespace Sys2Proof.Machine

/-- Setting the phase. -/
def setPhase (p : Phase) (s : State) : State := { s with seqPhase := p }

/-- The CMD_TX step, `frame_send` (R151, R152): a non-zero status ends the operation with TRANSPORT_WRITE, and status 0
goes on with `onSent`. -/
def cmdTxStep (opcode p1 : Byte) (p2 : U16) (payload : List Byte) (onSent : State → State) (s : State) : State :=
  if nextStatus s = 0#8 then onSent (transmitCommand opcode p1 p2 payload s)
  else finish .transportWrite [] (transmitCommand opcode p1 p2 payload s)

/-- One attempt of `frame_recv` (R155): the transport's next answer, read and judged; `onFail` and `onPayload` say what
the operation makes of the end of `frame_recv`. -/
def recvStep (k : Nat) (onFail : ErrCode → State → State) (onPayload : List Byte → State → State) (s : State) : State :=
  let bytes := nextAnswer s
  let t := receiveBytes k bytes (takeAnswer s)
  match judge k t.attempts s.params.readAttempts bytes with
  | .overrun => raiseFault .transportContract t
  | .again => t
  | .failed c => onFail c t
  | .payload data => onPayload data t

/-- A failure of `frame_recv` reported as it is, with no data (R270). -/
def failWith (c : ErrCode) (s : State) : State := finish c [] s

/-- The phases of SEND (R150, R197). -/
def sendPhases (opcode p1 : Byte) (p2 : U16) (payload : List Byte) (s : State) : Out :=
  match s.seqPhase with
  | .cmdTx => .next (cmdTxStep opcode p1 p2 payload (finish .ok []) s)
  | _ => .fault .impossiblePhase

/-- SEND (R150). -/
def execSend (opcode p1 : Byte) (p2 : U16) (payload : List Byte) (s : State) : Out :=
  hostOp (.send opcode p1 p2 payload) (sendPhases opcode p1 p2 payload) s

/-- The phases of RECV (R154, R197). -/
def recvPhases (n : Byte) (s : State) : Out :=
  match s.seqPhase with
  | .respRx => .next (recvStep (requestLength n) failWith (finish .ok) s)
  | _ => .fault .impossiblePhase

/-- RECV (R154). -/
def execRecv (n : Byte) (s : State) : Out := hostOp (.recv n) (recvPhases n) s

end Sys2Proof.Machine
end

