-- ==== Sys2Proof/Machine/Sequencer.lean ====
section
/-! DEFINITION. The sequencer (42_sequencer.md): WAKE, IDLE, SLEEP, WAIT, EXCH and XACT, one engine step per bus or
timer event (R197). -/

namespace Sys2Proof.Machine

/-! ## `wake_seq` (R184 to R186) -/

/-- WAKE_TX (R184): the empty general-call write; its status is not examined. -/
def wakeTxStep (s : State) : State := setPhase .wakeSettle (transmitWake s)

/-- WAKE_SETTLE (R185): `DelayUs(T_WAKE_US)`, then `frame_recv(1)` is entered. R155's text sets `SEQ_PHASE <- RESP_RX` in
every `frame_recv`, and R23, R183, R186 and R197 have WAKE_RX for the receive of the ready check: that it stays in WAKE_RX,
which a read of PHASE shows, is the model's choice (log entry 39). -/
def wakeSettleStep (s : State) : State :=
  let t := delayUs s.params.tWakeUs s
  enterRecv .wakeRx { t with device := t.device.onWakeSettle }

/-- A ready response that cannot be read or does not validate (R186). -/
def wakeNoResponse (_c : ErrCode) (s : State) : State := finish .readinessWakeNoresp [] s

/-- WAKE_RX (R186): one attempt at the ready response; `onReady` is what follows the ready code. -/
def wakeRxStep (onReady : State → State) (s : State) : State :=
  recvStep 4 wakeNoResponse
    (fun data t => if data.getD 0 0#8 = Config.READY_CODE then onReady t else finish .readinessWakeCode [] t) s

/-- The phases of WAKE (R183, R197). -/
def wakePhases (s : State) : Out :=
  match s.seqPhase with
  | .wakeTx => .next (wakeTxStep s)
  | .wakeSettle => .next (wakeSettleStep s)
  | .wakeRx => .next (wakeRxStep (finish .ok []) s)
  | _ => .fault .impossiblePhase

/-- WAKE (R183). -/
def execWake (s : State) : Out := hostOp .wake wakePhases s

/-! ## IDLE, SLEEP, WAIT -/

/-- The outcome of a one-byte write by its status (R187, R188). -/
def wordOutcome (status : Byte) (s : State) : State :=
  if status = 0#8 then finish .ok [] s else finish .transportWrite [] s

/-- IDLE_TX of the IDLE operation (R187). -/
def idleStep (s : State) : State := wordOutcome (nextStatus s) (transmitIdle s)

/-- The phases of IDLE (R187, R197). -/
def idlePhases (s : State) : Out :=
  match s.seqPhase with
  | .idleTx => .next (idleStep s)
  | _ => .fault .impossiblePhase

/-- IDLE (R187). -/
def execIdle (s : State) : Out := hostOp .idle idlePhases s

/-- SLEEP_TX (R188). -/
def sleepStep (s : State) : State := wordOutcome (nextStatus s) (transmitSleep s)

/-- The phases of SLEEP (R188, R197). -/
def sleepPhases (s : State) : Out :=
  match s.seqPhase with
  | .sleepTx => .next (sleepStep s)
  | _ => .fault .impossiblePhase

/-- SLEEP (R188). -/
def execSleep (s : State) : Out := hostOp .sleep sleepPhases s

/-- DELAY (R189): `DelayMs(t)`, then the outcome. -/
def waitStep (t : U16) (s : State) : State := finish .ok [] (delayMs t.toNat s)

/-- The phases of WAIT (R189, R197). -/
def waitPhases (t : U16) (s : State) : Out :=
  match s.seqPhase with
  | .delay => .next (waitStep t s)
  | _ => .fault .impossiblePhase

/-- WAIT (R189). -/
def execWait (t : U16) (s : State) : Out := hostOp (.wait t) (waitPhases t) s

/-! ## `exch_seq` (R190) -/

/-- SETTLE (R190): `DelayMs(settle)`, then `frame_recv(n)` is entered. -/
def settleStep (settle : U16) (s : State) : State := enterRecv .respRx (delayMs settle.toNat s)

/-- RESP_RX of an exchange (R190): with `STATUS_CHECK` a non-zero status byte fails with DEVICE_STATUS and is delivered;
otherwise `onData` is what follows the payload. -/
def respRxStep (n : Byte) (statusCheck : Bool) (onData : List Byte → State → State) (s : State) : State :=
  recvStep (requestLength n) failWith
    (fun data t => if statusCheck && !statusAccepted data then finish .deviceStatus data t else onData data t) s

/-- The phases of EXCH (R190, R197). -/
def exchPhases (opcode p1 : Byte) (p2 settle : U16) (n : Byte) (statusCheck : Bool) (payload : List Byte) (s : State) :
    Out :=
  match s.seqPhase with
  | .cmdTx => .next (cmdTxStep opcode p1 p2 payload (setPhase .settle) s)
  | .settle => .next (settleStep settle s)
  | .respRx => .next (respRxStep n statusCheck (finish .ok) s)
  | _ => .fault .impossiblePhase

/-- One command exchange (R190), shared by EXCH and the pseudo-instructions that expand to it (R122). -/
def exchange (opcode p1 : Byte) (p2 settle : U16) (n : Byte) (statusCheck : Bool) (payload : List Byte) (s : State) :
    Out :=
  hostOp (.exch opcode p1 p2 settle n statusCheck payload) (exchPhases opcode p1 p2 settle n statusCheck payload) s

/-- EXCH (R190). -/
def execExch (opcode p1 : Byte) (p2 settle : U16) (n : Byte) (statusCheck : Bool) (payload : List Byte) (s : State) :
    Out :=
  exchange opcode p1 p2 settle n statusCheck payload s

/-! ## XACT (R191) -/

/-- DRAIN (R191): `DelayMs(drain)`. -/
def drainStep (drain : Byte) (s : State) : State := setPhase .idleTx (delayMs drain.toNat s)

/-- IDLE_TX of XACT (R191, R194): the best-effort idle, its status ignored, then the outcome of the exchange, whose
payload is still in `RXBUF`. -/
def xactIdleStep (n : Byte) (s : State) : State :=
  let t := transmitIdle s
  finish .ok (rxPayload n.toNat t) t

/-- The phases of XACT (R191, R197): every failure ends it at once, with no idle (R193). -/
def xactPhases (opcode p1 : Byte) (p2 settle : U16) (n : Byte) (statusCheck : Bool) (drain : Byte)
    (payload : List Byte) (s : State) : Out :=
  match s.seqPhase with
  | .wakeTx => .next (wakeTxStep s)
  | .wakeSettle => .next (wakeSettleStep s)
  | .wakeRx => .next (wakeRxStep (setPhase .cmdTx) s)
  | .cmdTx => .next (cmdTxStep opcode p1 p2 payload (setPhase .settle) s)
  | .settle => .next (settleStep settle s)
  | .respRx => .next (respRxStep n statusCheck (fun _ => setPhase .drain) s)
  | .drain => .next (drainStep drain s)
  | .idleTx => .next (xactIdleStep n s)
  | _ => .fault .impossiblePhase

/-- XACT (R191). -/
def execXact (opcode p1 : Byte) (p2 settle : U16) (n : Byte) (statusCheck : Bool) (drain : Byte) (payload : List Byte)
    (s : State) : Out :=
  hostOp (.xact opcode p1 p2 settle n statusCheck drain payload)
    (xactPhases opcode p1 p2 settle n statusCheck drain payload) s

end Sys2Proof.Machine
end

