-- ==== Sys2Proof/Machine/Commands.lean ====
section
/-! DEFINITION. The device command profiles (43_commands.md R220 to R233): each pseudo-instruction is one exchange with
its profile's arguments, settle minimum and response length. The opcode and parameter values are R7's. -/

namespace Sys2Proof.Machine

open Config

/-- RANDOM (R220): 32 random bytes. -/
def execRandom (s : State) : Out :=
  exchange s.params.opRandom s.params.randomP1 s.params.randomP2 T_RANDOM_MS 32#8 false [] s

/-- GENKEY.CREATE (R221): a new key in a slot; its 64-byte public key. -/
def execGenkeyCreate (slot : U16) (s : State) : Out :=
  exchange s.params.opGenkey s.params.genkeyModeCreate slot T_GENKEY_MS 64#8 false [] s

/-- GENKEY.PUBLIC (R222): the 64-byte public key of a slot's key. -/
def execGenkeyPublic (slot : U16) (s : State) : Out :=
  exchange s.params.opGenkey s.params.genkeyModePublic slot T_GENKEY_MS 64#8 false [] s

/-- NONCE (R223): the digest into the message buffer; the status must be zero. -/
def execNonce (digest : List Byte) (s : State) : Out :=
  exchange s.params.opNonce s.params.nonceMode s.params.nonceP2 s.params.tNonceMs 1#8 true digest s

/-- SIGN (R224): the 64-byte signature with a slot's key. -/
def execSign (slot : U16) (s : State) : Out :=
  exchange s.params.opSign s.params.signMode slot T_SIGN_MS 64#8 false [] s

/-- VERIFY (R225): signature ++ public key against the message buffer; the status must be zero. -/
def execVerify (signature publicKey : List Byte) (s : State) : Out :=
  exchange s.params.opVerify s.params.verifyMode s.params.verifyCurveP256 T_VERIFY_MS 1#8 true
    (signature ++ publicKey) s

/-- READ4 (R226, R228). -/
def execRead4 (zone : Zone) (word : U16) (s : State) : Out :=
  exchange s.params.opRead (zoneSelector4 zone) word T_READ_MS 4#8 false [] s

/-- READ32 (R227, R228). -/
def execRead32 (zone : Zone) (word : U16) (s : State) : Out :=
  exchange s.params.opRead (zoneSelector32 s.params zone) word T_READ_MS 32#8 false [] s

/-- WRITE4 (R228, R229); the status must be zero. -/
def execWrite4 (zone : Zone) (word : U16) (data : List Byte) (s : State) : Out :=
  exchange s.params.opWrite (zoneSelector4 zone) word T_WRITE_MS 1#8 true data s

/-- WRITE32 (R228, R230); the status must be zero. -/
def execWrite32 (zone : Zone) (word : U16) (data : List Byte) (s : State) : Out :=
  exchange s.params.opWrite (zoneSelector32 s.params zone) word T_WRITE_MS 1#8 true data s

/-- LOCK.CONFIG (R231); the status must be zero. -/
def execLockConfig (s : State) : Out :=
  exchange s.params.opLock s.params.lockSelConfig s.params.lockP2 T_LOCK_MS 1#8 true [] s

/-- LOCK.DATA (R232); the status must be zero. -/
def execLockData (s : State) : Out :=
  exchange s.params.opLock s.params.lockSelDataOtp s.params.lockP2 T_LOCK_MS 1#8 true [] s

/-- INFO (R233): the 4-byte device revision. -/
def execInfo (s : State) : Out :=
  exchange s.params.opInfo s.params.infoMode s.params.infoP2 s.params.tInfoMs 4#8 false [] s

end Sys2Proof.Machine
end

