-- ==== Sys2Proof/Machine/Crc.lean ====
section
/-! DEFINITION. The CRC host operation (40_checksum.md R134) and the reserved host operations (30_encoding.md R113). -/

namespace Sys2Proof.Machine

/-- `CRC_OUT <- v` (R30, R134). -/
def setCrcOut (v : U16) (s : State) : State := { s with crcOut := some v }

/-- The CRC_RUN step (R134): the whole computation, `CRC_OUT` and the outcome; whether a byte takes one step or eight
cannot be observed (R132, log entry 1). -/
def crcStep (bytes : List Byte) (s : State) : State :=
  finish .ok [] (setCrcOut (crc16 bytes) (runCrc bytes s))

/-- The phases of CRC (R197). -/
def crcPhases (bytes : List Byte) (s : State) : Out :=
  match s.seqPhase with
  | .crcRun => .next (crcStep bytes s)
  | _ => .fault .impossiblePhase

/-- CRC (R134). -/
def execCrc (bytes : List Byte) (s : State) : Out := hostOp (.crc bytes) (crcPhases bytes) s

/-- A reserved host operation (R113): it takes `Fault(HOST_PROTOCOL)`, with no bus traffic and no other change. -/
def execReserved (_op : Byte) (_rest : List Byte) (s : State) : Out :=
  if s.fault then .fault .engineFaulted else .next (raiseFault .hostProtocol s)

end Sys2Proof.Machine
end

