-- ==== Sys2Proof/Machine/Dispatch.lean ====
section
/-! DEFINITION. The dispatch: one arm per constructor of `Instr`, each one direct call of its meaning. -/

namespace Sys2Proof.Machine

-- One engine step of an instruction: the first step of a host operation in READY, the next bus or timer event of the
-- operation in progress otherwise (42_sequencer.md R197); a wire format is its bus event.
def exec (i : Instr) (s : State) : Host.Outcome State Fault Refusal :=
  match i with
  | .crc bytes => Sys2Proof.Machine.execCrc bytes s
  | .send opcode p1 p2 payload => Sys2Proof.Machine.execSend opcode p1 p2 payload s
  | .recv n => Sys2Proof.Machine.execRecv n s
  | .wake => Sys2Proof.Machine.execWake s
  | .idle => Sys2Proof.Machine.execIdle s
  | .sleep => Sys2Proof.Machine.execSleep s
  | .wait t => Sys2Proof.Machine.execWait t s
  | .exch opcode p1 p2 settle n sc payload => Sys2Proof.Machine.execExch opcode p1 p2 settle n sc payload s
  | .xact opcode p1 p2 settle n sc drain payload => Sys2Proof.Machine.execXact opcode p1 p2 settle n sc drain payload s
  | .reserved op rest => Sys2Proof.Machine.execReserved op rest s
  | .wCmd opcode p1 p2 payload => Sys2Proof.Machine.execWCmd opcode p1 p2 payload s
  | .wRsp payload => Sys2Proof.Machine.execWRsp payload s
  | .wIdle => Sys2Proof.Machine.execWIdle s
  | .wSleep => Sys2Proof.Machine.execWSleep s
  | .wWake => Sys2Proof.Machine.execWWake s
  | .random => Sys2Proof.Machine.execRandom s
  | .genkeyCreate slot => Sys2Proof.Machine.execGenkeyCreate slot s
  | .genkeyPublic slot => Sys2Proof.Machine.execGenkeyPublic slot s
  | .nonce digest => Sys2Proof.Machine.execNonce digest s
  | .sign slot => Sys2Proof.Machine.execSign slot s
  | .verify signature publicKey => Sys2Proof.Machine.execVerify signature publicKey s
  | .read4 zone word => Sys2Proof.Machine.execRead4 zone word s
  | .read32 zone word => Sys2Proof.Machine.execRead32 zone word s
  | .write4 zone word data => Sys2Proof.Machine.execWrite4 zone word data s
  | .write32 zone word data => Sys2Proof.Machine.execWrite32 zone word data s
  | .lockConfig => Sys2Proof.Machine.execLockConfig s
  | .lockData => Sys2Proof.Machine.execLockData s
  | .info => Sys2Proof.Machine.execInfo s

end Sys2Proof.Machine
end

