-- ==== Sys2Proof/Machine/HostPort.lean ====
section
/-! DEFINITION. The host's own actions that issue no descriptor: register accesses (10_state.md R27), the listing's
bookkeeping (30_encoding.md R121), and what the device does by itself (42_sequencer.md R182). -/

namespace Sys2Proof.Machine

/-- A register value delivered to the host. -/
def deliverRead (r : HostReg) (v : RegValue) (s : State) : State :=
  { s with host := { s.host with reads := s.host.reads ++ [(r, v)] } }

/-- A host read of a register (R26, R27): the value is delivered; where the register holds none it is
`Fault(HOST_PROTOCOL)`, and a faulted engine takes no further fault (log entry 22). -/
def readRegister (r : HostReg) (s : State) : Out :=
  match regValue s r with
  | some v => .next (deliverRead r v s)
  | none => if s.fault then .fault .engineFaulted else .next (raiseFault .hostProtocol s)

/-- A host write to a register (R27, R267): no effect on the register, `Fault(HOST_PROTOCOL)`. -/
def writeRegister (_r : HostReg) (_v : List Byte) (s : State) : Out :=
  if s.fault then .fault .engineFaulted else .next (raiseFault .hostProtocol s)

/-- The failure code a result reports, if it reports a failure (R26, R261). -/
def failureOf (r : Result) : Option Byte :=
  match r.err with
  | some c => if c = 0x00#8 then none else some c
  | none => none

/-- The bytes a line gives the engine: an assembler line assembles to its descriptor (R120). -/
def lineDescriptor (p : Config.Params) (l : Line) : List Byte :=
  match l.op with
  | .assembly i => encode p i
  | .raw d => d

/-- Whether the line issues a CRC descriptor (R103, R104). -/
def lineIsCrc (p : Config.Params) (l : Line) : Bool := decide ((lineDescriptor p l).head? = some 0x01#8)

/-- What the host keeps of the line that has ended (R121): `RESULT`, whose `DATA` is the line's, and for a CRC line its
u16, which the engine holds in `CRC_OUT` (R12, R30, R134). -/
def lineResult (l : Line) (s : State) : LineResult := ⟨s.result, if lineIsCrc s.params l then s.crcOut else none⟩

/-- The host takes the result of the line in progress (R121): it keeps every result in order, and a failure of a line
without `?` ends the program. R121 does not say what a descriptor from outside does that arrives in READY before this
turn: it is accepted, and its result is then kept as the line's, the model's choice (log entry 12). -/
def collectResult (l : Line) (s : State) : State :=
  { s with
    host := { s.host with
      inFlight := none
      results := s.host.results ++ [lineResult l s]
      stopped := if l.bestEffort then none else failureOf s.result } }

/-- A new listing (R121). -/
def startProgram (lines : List Line) (s : State) : State :=
  { s with host := { s.host with program := lines, inFlight := none, stopped := none, results := [] } }

/-- The next line taken from the listing. -/
def takeLine (l : Line) (rest : List Line) (s : State) : State :=
  { s with host := { s.host with program := rest, inFlight := some l } }

/-- How a program stands (R121). -/
inductive ProgramOutcome where
  /-- A line is in progress or lines remain. -/
  | running
  /-- Every line was performed, and none failed but lines marked `?`. -/
  | ok
  /-- A line without `?` failed with this code. -/
  | failed (code : Byte)
  /-- A model fault ended the program. -/
  | faulted
  deriving DecidableEq, Repr

/-- The program's outcome (R121): a fault ends it at once. R121 does not say how a program stands that had ended before
the fault was taken, as by a later read of a register that holds no value: that its outcome, ok or failed until then, reads
faulted from then on is the model's choice (log entry 12). Neither R121 nor R290 says how a program stands that an engine
reset has dropped: that it reads ok from then on, whether it was running, failed or faulted, as a host with no line left
does, is the model's choice (log entry 12). -/
def programOutcome (s : State) : ProgramOutcome :=
  if s.fault then .faulted
  else
    match s.host.stopped with
    | some c => .failed c
    | none => if s.host.inFlight = none ∧ s.host.program = [] then .ok else .running

/-- Device power-on (R292). -/
def devicePowerOn (s : State) : State := { s with device := Device.poweredOn }

/-- The device's self-timeout (R182). -/
def deviceTimeout (s : State) : State := { s with device := s.device.onTimeout }

end Sys2Proof.Machine
end

