-- ==== Sys2Proof/Machine/Issue.lean ====
section
/-! DEFINITION. How the agents take their turns: issuing a descriptor (30_encoding.md R103, R113; 42_sequencer.md R196),
the engine going on with the operation in progress (R195, R197), the host going on with its listing (R121), and the
external actions. -/

namespace Sys2Proof.Machine

/-- The host issues a descriptor: a faulted engine accepts none (R267), a busy one takes `Fault(HOST_PROTOCOL)` (R196),
a malformed one does so too (R113), and otherwise the decoded operation takes its first step. -/
def issueDescriptor (d : List Byte) (s : State) : Out :=
  if s.fault then .fault .engineFaulted
  else if s.seqPhase = .ready then
    match decode d with
    | .ok i => exec i s
    | .error _ => .next (raiseFault .hostProtocol s)
  else .next (raiseFault .hostProtocol s)

/-- The host's turn, with the engine in READY: it takes the result of the line in progress, or issues the next line, or
has nothing to do (R121, R291). -/
def hostTurn (s : State) : Out :=
  match s.host.inFlight with
  | some l => .next (collectResult l s)
  | none =>
    match s.host.stopped, s.host.program with
    | none, l :: rest => issueDescriptor (lineDescriptor s.params l) (takeLine l rest s)
    | _, _ => .next s

/-- The engine's turn: nothing while faulted (R267); the next event of the operation in progress while BUSY; the host's
listing in READY. -/
def engineTurn (s : State) : Out :=
  if s.fault then .fault .engineFaulted
  else if s.seqPhase = .ready then hostTurn s
  else
    match s.curOp with
    | some op => exec op s
    | none => .fault .impossiblePhase

/-- One external action. -/
def takeInput (i : Input) (s : State) : Out :=
  match i with
  | .issue d => issueDescriptor d s
  | .start lines => .next (startProgram lines s)
  | .readReg r => readRegister r s
  | .writeReg r v => writeRegister r v s
  | .busInit => .next (busInit s)
  | .engineReset => .next (engineReset s)
  | .devicePowerOn => .next (devicePowerOn s)
  | .deviceTimeout => .next (deviceTimeout s)
  | .engineTurn => engineTurn s

/-- The state with its next external action taken off. -/
def popInbox (s : State) : State := { s with inbox := s.inbox.tail }

end Sys2Proof.Machine
end

