-- ==== Sys2Proof/Machine/Step.lean ====
section
/-! DEFINITION. One step of the machine, and where it fetches its next instruction: from the external actions. -/

namespace Sys2Proof.Machine

/-- One step: the external action that has arrived, or the engine's turn (00_scope.md R5; log entry 13). -/
def step (s : State) : Host.Outcome State Fault Refusal :=
  match s.inbox with
  | [] => engineTurn s
  | i :: _ => takeInput i (popInbox s)

/-- The state in which the host is about to issue the descriptor of a table word (log entry 11). -/
def State.withFetchWord (s : State) (nbits w : Nat) : State :=
  { s with inbox := .issue (tableDescriptor nbits w) :: s.inbox }

end Sys2Proof.Machine
end

