-- ==== Sys2Proof/Machine/Sessions.lean ====
section
/-! DEFINITION. The sessions of the named operations as listings (43_commands.md R240 to R247; 42_sequencer.md R192),
and the client's checks around them (R240, R245, R247; 60_exceptions.md R261). They are host programs: the engine knows
none of them. -/

namespace Sys2Proof.Machine

/-- A line that must succeed. -/
def must (i : Instr) : Line := ⟨.assembly i, false⟩

/-- A best-effort line, marked `?` (R121, R194). -/
def bestEffort (i : Instr) : Line := ⟨.assembly i, true⟩

/-- A session (R192): WAKE, the exchanges, an optional drain WAIT, and the best-effort IDLE. -/
def session (exchanges : List Instr) (drain : Option U16) : List Line :=
  must .wake :: (exchanges.map must ++ (drain.map fun t => must (.wait t)).toList ++ [bestEffort .idle])

/-- How many RANDOM exchanges `random(length)` makes: ⌈length / 32⌉ (R240). -/
def randomCalls (length : Nat) : Nat := (length + (Config.RANDOM_BLOCK - 1)) / Config.RANDOM_BLOCK

/-- `random(length)` (R240, R303). -/
def randomSession (length : Nat) : List Line :=
  session (List.replicate (randomCalls length) .random) (some Config.T_DRAIN_MS)

/-- The output of `random(length)` from the responses in call order (R240, 92 D41): the first min(32, remaining) bytes
of each. -/
def randomOutput : Nat → List (List Byte) → List Byte
  | _, [] => []
  | remaining, block :: blocks =>
    block.take (min Config.RANDOM_BLOCK remaining) ++
      randomOutput (remaining - min Config.RANDOM_BLOCK remaining) blocks

/-- `random(length)` delivers its output only where the session succeeded (R240); the RANDOM lines follow the WAKE. R240
does not speak of a session that an engine reset has dropped: its outcome reads ok from then on and no result is left, so
that no byte is delivered, as `some []` and not as `none`, even where the session had failed: the model's choice (log
entry 12). -/
def randomDelivered (length : Nat) (s : State) : Option (List Byte) :=
  match programOutcome s with
  | .ok => some (randomOutput length (((s.host.results.drop 1).take (randomCalls length)).map
      fun r => r.result.data.getD []))
  | _ => none

/-- `sign(slot, message)` (R241): the random session, then NONCE and SIGN in one session. R241 shows a digest of 32 bytes,
and R223 calls a listing with another length outside every session: that the client makes no check, so that the session is
built with a digest of any length, is the model's choice (log entry 37). -/
def signSession (slot : U16) (digest : List Byte) : List Line :=
  randomSession Config.RANDOM_BLOCK ++ session [.nonce digest, .sign slot] none

/-- `verify(message, signature, publicKey)` (R242). R242 shows a digest of 32 bytes and a signature and a key of 64: that the
client makes no check, so that the session is built with any three lists, is the model's choice (log entry 37). -/
def verifySession (digest signature publicKey : List Byte) : List Line :=
  session [.nonce digest, .verify signature publicKey] none

/-- A command profile as one transaction (R243): XACT with the profile's arguments and the given drain. -/
def transaction? (p : Config.Params) (drain : Byte) (i : Instr) : Option Instr :=
  match expand p i with
  | .exch opcode p1 p2 settle n sc payload => some (.xact opcode p1 p2 settle n sc drain payload)
  | _ => none

/-- A single-command operation (R243): one XACT with drain 0. -/
def singleCommand (p : Config.Params) (i : Instr) : List Line := ((transaction? p 0#8 i).map must).toList

/-- The full device lock (R246): the configuration zone, then data and OTP. -/
def fullLock (p : Config.Params) : List Line := singleCommand p .lockConfig ++ singleCommand p .lockData

/-- The profile of a zone read (R245): a length other than 4 or 32 fails with ARGUMENT before any session. -/
def readZone (zone : Zone) (word : U16) (length : Nat) : Except ErrCode Instr :=
  if length = 4 then .ok (.read4 zone word)
  else if length = 32 then .ok (.read32 zone word)
  else .error .argument

/-- The profile of a zone write (R245). -/
def writeZone (zone : Zone) (word : U16) (data : List Byte) : Except ErrCode Instr :=
  if data.length = 4 then .ok (.write4 zone word data)
  else if data.length = 32 then .ok (.write32 zone word data)
  else .error .argument

/-- The version check of `deviceReady()` (R247): how the bytes are compared is open (92 D40). -/
def deviceReadyCode (p : Config.Params) (data : List Byte) : ErrCode :=
  if Config.familyMatches p.deviceFamily data then .ok else .readinessVersion

end Sys2Proof.Machine
end

