-- ==== Sys2Proof/Safety.lean ====
section
/-! DEFINITION. What counts as a safe state and a safe run, in the terms the statements use: the invariant of the engine,
the forms the history's events may have, the device premises of 42_sequencer.md R198, and the hazards of
70_reset_and_hazards.md. -/

namespace Sys2Proof.Safety

open Machine

/-! ## Where an operation stands -/

/-- The engine can accept a host operation (R196, R267). -/
def Ready (s : State) : Prop := s.fault = false ∧ s.seqPhase = .ready

/-- `op` is in progress in phase `p`. -/
def InPhase (op : Instr) (p : Phase) (s : State) : Prop :=
  s.fault = false ∧ s.seqPhase = p ∧ s.curOp = some op ∧ p ≠ .ready

/-- The phases each host operation passes through (R197). -/
def phasesOf : Instr → List Phase
  | .crc _ => [.crcRun]
  | .send _ _ _ _ => [.cmdTx]
  | .recv _ => [.respRx]
  | .wake => [.wakeTx, .wakeSettle, .wakeRx]
  | .idle => [.idleTx]
  | .sleep => [.sleepTx]
  | .wait _ => [.delay]
  | .exch _ _ _ _ _ _ _ => [.cmdTx, .settle, .respRx]
  | .xact _ _ _ _ _ _ _ _ => [.wakeTx, .wakeSettle, .wakeRx, .cmdTx, .settle, .respRx, .drain, .idleTx]
  | _ => []

/-- The next phases R197 allows for an operation: staying in a receive phase (one more attempt), the next phase of its
row, READY after the last, and READY from the phases whose failure ends it. -/
def nextPhases : Instr → Phase → List Phase
  | .crc _, .crcRun => [.ready]
  | .send _ _ _ _, .cmdTx => [.ready]
  | .recv _, .respRx => [.respRx, .ready]
  | .wake, .wakeTx => [.wakeSettle]
  | .wake, .wakeSettle => [.wakeRx]
  | .wake, .wakeRx => [.wakeRx, .ready]
  | .idle, .idleTx => [.ready]
  | .sleep, .sleepTx => [.ready]
  | .wait _, .delay => [.ready]
  | .exch _ _ _ _ _ _ _, .cmdTx => [.settle, .ready]
  | .exch _ _ _ _ _ _ _, .settle => [.respRx]
  | .exch _ _ _ _ _ _ _, .respRx => [.respRx, .ready]
  | .xact _ _ _ _ _ _ _ _, .wakeTx => [.wakeSettle]
  | .xact _ _ _ _ _ _ _ _, .wakeSettle => [.wakeRx]
  | .xact _ _ _ _ _ _ _ _, .wakeRx => [.wakeRx, .cmdTx, .ready]
  | .xact _ _ _ _ _ _ _ _, .cmdTx => [.settle, .ready]
  | .xact _ _ _ _ _ _ _ _, .settle => [.respRx]
  | .xact _ _ _ _ _ _ _ _, .respRx => [.respRx, .drain, .ready]
  | .xact _ _ _ _ _ _ _ _, .drain => [.idleTx]
  | .xact _ _ _ _ _ _ _ _, .idleTx => [.ready]
  | _, _ => []

/-! ## The engine's invariant -/

/-- A buffer lists exactly the indices below its length (R31, R32). -/
def bufferFilled (m : Memory) (len : Nat) : Prop := m.map Prod.fst = List.range len

/-- An operation in progress is a host operation that passed the checks of R113 and R114, in one of its phases. -/
def opConsistent (s : State) : Prop :=
  match s.curOp with
  | none => s.seqPhase = .ready
  | some op => op.isHostOp = true ∧ op.wf = true ∧ withinLimits s.params op = true ∧ s.seqPhase ∈ phasesOf op

/-- A transaction that has its payload still holds the whole response frame in `RXBUF` (R32, R191). -/
def xactHolds (s : State) : Prop :=
  match s.curOp with
  | some (.xact _ _ _ _ n _ _ _) =>
    (s.seqPhase = .drain ∨ s.seqPhase = .idleTx) → s.rxlen = requestLength n
  | _ => True

/-- The invariant of the engine: the ranges of R20, the buffers' form, the result's values, the phases of R197, and
the model's notes of what came after `BusInit`. -/
structure EngineInv (s : State) : Prop where
  /-- R31: `TXLEN` is 0..256 and `TXBUF` holds values exactly below it. -/
  tx : s.txlen ≤ 256 ∧ bufferFilled s.txbuf s.txlen
  /-- R32: `RXLEN` is 0..255 and `RXBUF` holds values exactly below it. -/
  rx : s.rxlen ≤ 255 ∧ bufferFilled s.rxbuf s.rxlen
  /-- R29: between computations `CRC_BIT` is 0. -/
  crc : s.crcBit = 0#3
  /-- R33: `ATTEMPTS` never passes `READ_ATTEMPTS`. -/
  attempts : s.attempts ≤ s.params.readAttempts
  /-- R155: a receive phase that has not been faulted has an attempt left. -/
  attemptLeft : s.fault = false → (s.seqPhase = .wakeRx ∨ s.seqPhase = .respRx) → s.attempts < s.params.readAttempts
  /-- R261: a valid result carries a code of the table and at most 252 bytes. -/
  resultHeld : s.result.valid = true →
    ∃ c d, s.result.err = some c ∧ s.result.data = some d ∧ c ∈ engineCodes ∧ d.length ≤ 252
  /-- R26: while BUSY no result is valid. -/
  busyInvalid : s.seqPhase ≠ .ready → s.result.valid = false
  /-- R293: what was issued or sent after `BusInit` comes after a `BusInit` that was performed. -/
  busInit : s.transport.issuedAfterInit = true ∨ s.transport.sentAfterInit = true → s.transport.initDone = true
  /-- R34: a reason is held exactly while `FAULT = 1`. -/
  faultReason : s.fault = s.faultReason.isSome
  /-- R197. -/
  op : opConsistent s
  /-- R191. -/
  held : xactHolds s

/-! ## The history -/

/-- The events the engine may cause (R61, R69, R90): a general-call write of nothing, a write of a command frame, of
the idle word or of the sleep word to `DEV_ADDR`, a read of 3 to 255 bytes at `DEV_ADDR`, a delay, or the host's
`BusInit`. -/
def eventAllowed (p : Config.Params) : Event → Prop
  | .busInit clock => clock = p.busClock
  | .busWrite addr bytes _ =>
    (addr = p.generalCallAddr ∧ bytes = []) ∨
    (addr = p.devAddr ∧ (bytes = [p.wordIdle] ∨ bytes = [p.wordSleep] ∨
      ∃ opcode p1 p2 payload, payload.length ≤ p.maxPayload ∧ bytes = commandFrame opcode p1 p2 payload))
  | .busRead addr k _ => addr = p.devAddr ∧ 3 ≤ k ∧ k ≤ 255
  | .delayMs _ => True
  | .delayUs t => t = p.tWakeUs

/-- Every event of the history is allowed. -/
def HistoryAllowed (s : State) : Prop := ∀ e ∈ s.events, eventAllowed s.params e

/-- Whether an event is a `BusRead`. -/
def isRead : Event → Bool
  | .busRead _ _ _ => true
  | .busWrite _ _ _ => false
  | .busInit _ => false
  | .delayMs _ => false
  | .delayUs _ => false

/-! ## Hazards -/

/-- Hazard H1 (R296): a read now would be made before the last command's settle minimum has passed. R11 bounds no delay from
above: that a read counts as early where the lower bound on time is below the minimum is the model's choice (log entry 9). -/
def earlyRead (s : State) : Bool :=
  decide (s.device.devState = .executing) && decide (s.device.settled? s.elapsedUs = some false)

/-- Hazard H3 (R299): a write now would reach a device that is executing. -/
def writesIntoExecution (s : State) : Bool := decide (s.device.devState = .executing)

/-- An EXCH whose settle operand respects its command's minimum (R296). -/
def settleRespected (p : Config.Params) : Instr → Bool
  | .exch opcode _ _ settle _ _ _ => decide (∀ ms ∈ settleMinimum p opcode, ms ≤ settle.toNat)
  | .xact opcode _ _ settle _ _ _ _ => decide (∀ ms ∈ settleMinimum p opcode, ms ≤ settle.toNat)
  | _ => true

/-- No irreversible operation is on its way in the history (R305): no written frame is one of LOCK's. -/
def noLockFrame (p : Config.Params) (s : State) : Prop :=
  ∀ addr st p1 p2 payload, Event.busWrite addr (commandFrame p.opLock p1 p2 payload) st ∉ s.events

/-! ## Expected effects, field by field -/

/-- The operation has ended with code `c` and data `d` (R26, R270). -/
def completed (c : Byte) (d : List Byte) (s : State) : State :=
  { s with result := ⟨true, some c, some d⟩, seqPhase := .ready, curOp := none }

/-- The operation `op` has been accepted and stands in phase `p` (R26); the model notes whether `BusInit` came before it
(R293; log entry 21). -/
def started (op : Instr) (p : Phase) (s : State) : State :=
  { s with
    result := ⟨false, s.result.err, s.result.data⟩, curOp := some op, seqPhase := p
    transport := { s.transport with issuedAfterInit := s.transport.initDone } }

/-- A model fault has been taken (R267). -/
def faulted (r : FaultReason) (s : State) : State := { s with fault := true, faultReason := some r }

/-- One bus write has been made: its event, its status taken from the transport (R10, R69). -/
def written (addr : Nat) (bytes : List Byte) (s : State) : State :=
  { s with
    transport := s.transport.afterStatus
    events := .busWrite addr bytes (nextStatus s) :: s.events }

/-- `TXBUF[0..len)` holds `bytes`, and nothing above (R31). -/
def txHolds (bytes : List Byte) (s : State) : State := { s with txbuf := bufferOf bytes, txlen := bytes.length }

/-- The command frame has been built and written once (R91, R151, R152), and the device has seen it (R38, R181). -/
def commandWritten (opcode p1 : Byte) (p2 : U16) (payload : List Byte) (s : State) : State :=
  let frame := commandFrame opcode p1 p2 payload
  { written s.params.devAddr frame (txHolds frame s) with
    crcAcc := crc16 (commandBody opcode p1 p2 payload), crcBit := 0#3
    device := s.device.onCommand s.params opcode p1 p2 payload (nextStatus s) s.elapsedUs }

/-- One read attempt has returned `bytes` (R155): the event, the count, and `RXBUF`. -/
def attempted (k : Nat) (bytes : List Byte) (s : State) : State :=
  { s with
    transport := s.transport.afterAnswer
    attempts := s.attempts + 1
    events := .busRead s.params.devAddr k bytes :: s.events
    rxbuf := bufferOf bytes, rxlen := bytes.length }

/-- One full-length attempt has returned `bytes`, whose covered bytes went through the Checksum Engine if the length
byte was right (R157, R158). -/
def fullAttempt (k : Nat) (bytes : List Byte) (s : State) : State :=
  { attempted k bytes s with
    device := s.device.onFullRead s.elapsedUs
    crcAcc := if lengthByteOk k bytes then crc16 (coveredBytes k bytes) else s.crcAcc
    crcBit := if lengthByteOk k bytes then 0#3 else s.crcBit }

/-- The operation delays at least `us` microseconds through the timer event `e` (R11). -/
def delayed (e : Event) (us : Nat) (s : State) : State :=
  { s with elapsedUs := s.elapsedUs + us, events := e :: s.events }

/-- How many bytes an attempt requests in a receive phase of an operation (R155, R186); `none` in any other phase. -/
def receiveLength : Instr → Phase → Option Nat
  | .recv n, .respRx => some (n.toNat + 3)
  | .exch _ _ _ _ n _ _, .respRx => some (n.toNat + 3)
  | .xact _ _ _ _ n _ _ _, .respRx => some (n.toNat + 3)
  | .wake, .wakeRx => some 4
  | .xact _ _ _ _ _ _ _ _, .wakeRx => some 4
  | _, _ => none

/-- The code that a failed reception is reported with: READINESS_WAKE_NORESP in the ready check (R186), its own code
elsewhere. -/
def receptionCode (p : Phase) (c : Byte) : Byte := if p = .wakeRx then 0x41#8 else c

/-! ## The tables the statements compare with -/

/-- R296: each command's opcode with its settle minimum in milliseconds. -/
def commandMinimums (p : Config.Params) : List (Byte × Nat) :=
  [(p.opRandom, 23), (p.opGenkey, 115), (p.opNonce, p.tNonceMs.toNat), (p.opSign, 50), (p.opVerify, 58), (p.opRead, 1),
   (p.opWrite, 26), (p.opLock, 32), (p.opInfo, p.tInfoMs.toNat)]

/-- R23: each phase with its encoding. -/
def phaseCodes : List (Phase × BitVec 4) :=
  [(.ready, 0x0#4), (.crcRun, 0x1#4), (.wakeTx, 0x2#4), (.wakeSettle, 0x3#4), (.wakeRx, 0x4#4), (.cmdTx, 0x5#4),
   (.settle, 0x6#4), (.respRx, 0x7#4), (.drain, 0x8#4), (.idleTx, 0x9#4), (.sleepTx, 0xA#4), (.delay, 0xB#4)]

/-! ## Device premises (R198) -/

/-- How many bytes the next engine step requests, where it is an attempt of a read. -/
def nextRead (s : State) : Option Nat := s.curOp.bind fun op => receiveLength op s.seqPhase

/-- R293, R198 (g): nothing is premised of an operation that was issued before `BusInit`, though `BusInit` may come while
it is in progress: the operation that reads, and the one that made the transmission which the read is to answer (the
latest write), were issued after it. That the transmission is asked for too is the model's choice (log entry 21). -/
def AfterBusInit (s : State) : Prop := s.transport.issuedAfterInit = true ∧ s.transport.sentAfterInit = true

/-- R198 (a): after W-WAKE to a sleeping or unknown device and the wake settle, a read of 4 bytes returns the ready frame
`04 11 33 43`. Of operations issued before `BusInit` nothing is premised (R198 (g), R293). -/
def ReadyPremise (s : State) : Prop :=
  AfterBusInit s → s.device.devState = .idle → s.device.readyPending = true → nextRead s = some 4 →
    nextAnswer s = [0x04#8, 0x11#8, 0x33#8, 0x43#8]

/-- R198 (b): once the settle minimum of the executing command has passed, a read of n + 3 bytes, where n is that
command's response length, returns a valid response frame of n payload bytes. (b) asks that the device was in IDLE, and (g)
leaves commands issued outside a session open: that a command to a device still in IDLE is premised to be answered though
no WAKE has come since the last W-IDLE is the model's choice (log entry 36). (g) also lists the undefined signature of R244:
that a SIGN with no random phase before it is premised to be answered by a valid frame, of which only the 64 payload bytes
are open, is the model's choice (log entry 38). -/
def ResponsePremise (s : State) : Prop :=
  ∀ n : Nat, AfterBusInit s → s.device.devState = .executing →
    s.device.settled? s.elapsedUs = some true → s.device.respLength = some n → nextRead s = some (n + 3) →
    ∃ data : List Byte, data.length = n ∧ nextAnswer s = responseFrame data

/-! ## Runs -/

/-- The engine is left alone: no external action has arrived. -/
def Alone (s : State) : Prop := s.inbox = []

/-- The host has no listing to go on with. -/
def HostIdle (s : State) : Prop := s.host.inFlight = none ∧ s.host.program = []

/-- `k` engine steps. -/
def run (k : Nat) (s : State) : Host.Outcome State Fault Refusal := core.run k s

end Sys2Proof.Safety
end

