-- ==== Sys2Proof/Certificates/Slice0/Obligations.lean ====
section
/-! DEFINITION. The statements for the provers. Each docstring names the rules of spec/ it formalises; where it rests on
a convention of the model, it names the log entry. `Safety.lean` has the expected effects the statements use. -/

open Sys2Proof Sys2Proof.Machine Sys2Proof.Safety

/-! ## Reset, the fault record and the invariant -/

/-- R39: the values after an engine reset, from every state; a read of what holds no value is a model fault; the device
is ASLEEP at its power-on and UNKNOWN after a reset without one; the timing ghost's `LAST_CMD` is none after the reset. -/
def Obligations.EngineResetGivesTheResetValues : Prop :=
  ∀ (s : State) (rest : List Input),
    ∃ t, step { s with inbox := .engineReset :: rest } = .next t ∧
      t.seqPhase = .ready ∧ t.curOp = none ∧ t.crcAcc = 0x0000#16 ∧ t.crcBit = 0#3 ∧ t.crcOut = none ∧
      (∀ a, memGet t.txbuf a = none) ∧ t.txlen = 0 ∧ (∀ a, memGet t.rxbuf a = none) ∧ t.rxlen = 0 ∧ t.attempts = 0 ∧
      t.result = ⟨false, none, none⟩ ∧ t.fault = false ∧ t.faultReason = none ∧ statusByte t = 0x00#8 ∧
      t.device.devState = .unknown ∧ t.device.lastCmd = none ∧
      (∀ r ∈ [HostReg.err, HostReg.data, HostReg.crcOut],
        readRegister r t = .next (faulted .hostProtocol t)) ∧
      ∃ u, step { s with inbox := .devicePowerOn :: rest } = .next u ∧ u.device.devState = .asleep

/-- `State.reset` has the values of R39 and meets the invariant. The device UNKNOWN is log entry 8. That the history is
empty, and so allowed, is log entry 20; that an engine reset leaves `State.reset` as it is rests on log entry 20, for the
model's own fields that are empty in it, on log entry 30, for `REQ_SETTLE`, and on log entry 28, for those that a reset
keeps. All are the model's choices. -/
def Obligations.ResetMeetsTheInvariant : Prop :=
  EngineInv State.reset ∧ HistoryAllowed State.reset ∧ State.reset.fault = false ∧ statusByte State.reset = 0x00#8 ∧
    State.reset.device.devState = .unknown ∧ engineReset State.reset = State.reset

/-- Every step keeps the engine's invariant: the ranges of R20, the buffers' form (R31, R32), `CRC_BIT` at rest (R29),
the attempt bound (R33), the result's values (R26, R261), the fault record (R34), the phases (R23, R197), and the model's
notes of what came after `BusInit` (R293; log entry 21). -/
def Obligations.StepKeepsTheInvariant : Prop :=
  ∀ s t : State, EngineInv s → step s = .next t → EngineInv t

/-- R34, R267: no step but an engine reset clears or changes the fault record. -/
def Obligations.OnlyResetClearsFault : Prop :=
  ∀ s t : State, s.fault = true → step s = .next t → s.inbox.head? ≠ some .engineReset →
    t.fault = true ∧ t.faultReason = s.faultReason

/-- R267: while `FAULT = 1` the engine takes no step: neither the engine's turn nor a descriptor nor any instruction
has a next state. -/
def Obligations.FaultedEngineTakesNoStep : Prop :=
  ∀ s : State, s.fault = true →
    (s.inbox = [] → step s = .fault .engineFaulted) ∧
    (∀ d rest, s.inbox = .issue d :: rest → step s = .fault .engineFaulted) ∧
    ∀ i, exec i s = .fault .engineFaulted

/-- R20, R294: no step changes the configuration. -/
def Obligations.StepKeepsTheConfiguration : Prop :=
  ∀ s t : State, step s = .next t → t.cfg = s.cfg

/-- R71, R76: a step adds at most one event to the history and changes none that is there; time never goes back (R11). -/
def Obligations.StepAddsAtMostOneEvent : Prop :=
  ∀ s t : State, step s = .next t →
    (t.events = s.events ∨ ∃ e, t.events = e :: s.events) ∧ s.elapsedUs ≤ t.elapsedUs

/-- R61, R69, R90, R115: along every step the history holds only the general-call write of nothing, whole command
frames, idle words and sleep words to `DEV_ADDR`, reads of 3 to 255 bytes at `DEV_ADDR`, delays, and `BusInit`. -/
def Obligations.StepKeepsTheHistoryAllowed : Prop :=
  ∀ s t : State, EngineInv s → HistoryAllowed s → step s = .next t → HistoryAllowed t

/-- R26: `RESULT` is written at two points of each operation and at no other time, an engine reset apart: the first step
clears `VALID` alone, and the last step, which returns to READY, writes all three fields. -/
def Obligations.ResultIsWrittenAtTwoPoints : Prop :=
  ∀ s t : State, step s = .next t → s.inbox.head? ≠ some .engineReset →
    t.result = s.result ∨
    (s.seqPhase = .ready ∧ t.curOp.isSome = true ∧ t.result = ⟨false, s.result.err, s.result.data⟩) ∨
    (s.seqPhase ≠ .ready ∧ t.seqPhase = .ready ∧ t.curOp = none ∧
      ∃ c d, c ∈ engineCodes ∧ t.result = ⟨true, some c, some d⟩)

/-- R30: `CRC_OUT` is written by the CRC operation alone, an engine reset apart. -/
def Obligations.OnlyCrcWritesCrcOut : Prop :=
  ∀ s t : State, step s = .next t → s.inbox.head? ≠ some .engineReset → t.crcOut ≠ s.crcOut →
    ∃ bytes, s.curOp = some (.crc bytes) ∧ t.crcOut = some (crc16 bytes)

/-- R197: the engine's turn with an operation in progress moves to a phase that the operation's row allows, or takes a
fault and stays in its phase (that it stays: the model's choice, log entry 4). That the receive of the ready check is in
WAKE_RX, as R197 has it, and not in R155's RESP_RX, is the model's choice (log entry 39). -/
def Obligations.PhasesFollowTheTable : Prop :=
  ∀ (s t : State) (op : Instr), EngineInv s → s.inbox = [] → s.seqPhase ≠ .ready → s.curOp = some op →
    step s = .next t →
      (t.fault = false ∧ t.seqPhase ∈ nextPhases op s.seqPhase) ∨ (t.fault = true ∧ t.seqPhase = s.seqPhase)

/-- R195, with the invariant: an accepted operation always has a next step: no state that meets the invariant and has no fault
stops the machine, whatever external action comes. -/
def Obligations.UnfaultedEngineAlwaysSteps : Prop :=
  ∀ s : State, EngineInv s → s.fault = false → ∃ t, step s = .next t

/-- R180: the engine branches on nothing but bus results: with another device behind the transport, every step does the
same to everything but the device. -/
def Obligations.EngineNeverReadsTheDevice : Prop :=
  ∀ (s : State) (d : Device),
    (∀ t, step s = .next t → ∃ d', step { s with device := d } = .next { t with device := d' }) ∧
    (∀ f, step s = .fault f → step { s with device := d } = .fault f) ∧
    ∀ r, step s ≠ .refused r

/-! ## The Checksum Engine -/

/-- R138: the checksum is linear on byte sequences of equal length. -/
def Obligations.ChecksumIsLinear : Prop :=
  ∀ a b : List Byte, a.length = b.length →
    crc16 (List.zipWith (· ^^^ ·) a b) = crc16 a ^^^ crc16 b

/-- R139: leading zero bytes are invisible to the checksum. -/
def Obligations.ZeroBytesInFrontAreInvisible : Prop :=
  ∀ (k : Nat) (s : List Byte),
    crc16 (List.replicate k 0x00#8 ++ s) = crc16 s ∧ crc16 (List.replicate k 0x00#8) = 0x0000#16

/-- From R141: a response frame with any one of its bits inverted does not validate, whatever its length, and RECV rejects it:
the attempt that reads it ends RECV with one of the two integrity failures, and with no data. That this full-length read
counts for the device agent as the read of its response, though it does not validate, is the model's choice (log entry 9). -/
def Obligations.SingleBitErrorsAreDetected : Prop :=
  ∀ (payload : List Byte) (i : Nat) (j : Nat), payload.length ≤ 252 → i < payload.length + 3 → j < 8 →
    ∀ bad : List Byte,
      bad = (responseFrame payload).set i ((responseFrame payload).getD i 0x00#8 ^^^ (0x01#8 <<< j)) →
      (∀ d, validateFrame (payload.length + 3) bad ≠ .ok d) ∧
      ∀ (s : State) (n : Byte), n.toNat = payload.length → InPhase (.recv n) .respRx s → nextAnswer s = bad →
        ∃ c, (c = 0x20#8 ∨ c = 0x21#8) ∧
          exec (.recv n) s = .next (completed c [] (fullAttempt (payload.length + 3) bad s))

/-- R134: the CRC_RUN step of a CRC operation ends it: `CRC_OUT` is the checksum, the result is OK with no data, and no
bus or timer event happens. Nothing else changes. That the whole computation is one step is the model's choice (log
entry 1: R132 lets it be more). -/
def Obligations.CrcCompletes : Prop :=
  ∀ (s : State) (bytes : List Byte), InPhase (.crc bytes) .crcRun s →
    exec (.crc bytes) s = .next (completed 0x00#8 []
      { s with crcAcc := crc16 bytes, crcBit := 0#3, crcOut := some (crc16 bytes) })

/-! ## Issuing an operation -/

/-- R26, R197: in READY each well-formed host operation within the limits is accepted: `VALID` is cleared, the operation
is in progress in its first phase, RECV has cleared `ATTEMPTS` (R155), and nothing else changes but the model's note
whether `BusInit` came before it (log entry 21). That acceptance is a step of its own is the model's choice (log entry 1). -/
def Obligations.HostOperationsAreAccepted : Prop :=
  ∀ s : State, Ready s →
    (∀ bytes : List Byte, bytes.length ≤ 255 → exec (.crc bytes) s = .next (started (.crc bytes) .crcRun s)) ∧
    (∀ opcode p1 p2 (payload : List Byte), payload.length ≤ s.params.maxPayload →
      exec (.send opcode p1 p2 payload) s = .next (started (.send opcode p1 p2 payload) .cmdTx s)) ∧
    (∀ n : Byte, n.toNat ≤ 252 → exec (.recv n) s = .next { started (.recv n) .respRx s with attempts := 0 }) ∧
    exec .wake s = .next (started .wake .wakeTx s) ∧
    exec .idle s = .next (started .idle .idleTx s) ∧
    exec .sleep s = .next (started .sleep .sleepTx s) ∧
    (∀ t, exec (.wait t) s = .next (started (.wait t) .delay s)) ∧
    (∀ opcode p1 p2 settle (n : Byte) sc (payload : List Byte), payload.length ≤ s.params.maxPayload → n.toNat ≤ 252 →
      (sc = true → n = 1#8) →
      exec (.exch opcode p1 p2 settle n sc payload) s =
        .next (started (.exch opcode p1 p2 settle n sc payload) .cmdTx s)) ∧
    ∀ opcode p1 p2 settle (n : Byte) sc drain (payload : List Byte), payload.length ≤ s.params.maxPayload →
      n.toNat ≤ 252 → (sc = true → n = 1#8) →
      exec (.xact opcode p1 p2 settle n sc drain payload) s =
        .next (started (.xact opcode p1 p2 settle n sc drain payload) .wakeTx s)

/-- From R122 and R220 to R233: each pseudo-instruction is the one EXCH of its profile: in every state it does what that
EXCH does. That executing a pseudo-instruction is executing its EXCH is the model's reading of R122 (log entry 18). That
VERIFY, WRITE4 and WRITE32 do so with byte lists of any length, where R225, R229 and R230 speak of 128, 4 and 32 bytes
only, is the model's choice (log entry 32). -/
def Obligations.PseudoInstructionsAreTheirExchanges : Prop :=
  ∀ s : State,
    exec .random s = exec (.exch s.params.opRandom s.params.randomP1 s.params.randomP2 23#16 32#8 false []) s ∧
    (∀ slot, exec (.genkeyCreate slot) s =
      exec (.exch s.params.opGenkey s.params.genkeyModeCreate slot 115#16 64#8 false []) s) ∧
    (∀ slot, exec (.genkeyPublic slot) s =
      exec (.exch s.params.opGenkey s.params.genkeyModePublic slot 115#16 64#8 false []) s) ∧
    (∀ digest, exec (.nonce digest) s =
      exec (.exch s.params.opNonce s.params.nonceMode s.params.nonceP2 s.params.tNonceMs 1#8 true digest) s) ∧
    (∀ slot, exec (.sign slot) s = exec (.exch s.params.opSign s.params.signMode slot 50#16 64#8 false []) s) ∧
    (∀ sig pub, exec (.verify sig pub) s =
      exec (.exch s.params.opVerify s.params.verifyMode s.params.verifyCurveP256 58#16 1#8 true (sig ++ pub)) s) ∧
    (∀ zone word, exec (.read4 zone word) s =
      exec (.exch s.params.opRead (zoneNumber zone) word 1#16 4#8 false []) s) ∧
    (∀ zone word, exec (.read32 zone word) s =
      exec (.exch s.params.opRead (zoneNumber zone ||| s.params.zoneSel32) word 1#16 32#8 false []) s) ∧
    (∀ zone word data, exec (.write4 zone word data) s =
      exec (.exch s.params.opWrite (zoneNumber zone) word 26#16 1#8 true data) s) ∧
    (∀ zone word data, exec (.write32 zone word data) s =
      exec (.exch s.params.opWrite (zoneNumber zone ||| s.params.zoneSel32) word 26#16 1#8 true data) s) ∧
    exec .lockConfig s = exec (.exch s.params.opLock s.params.lockSelConfig s.params.lockP2 32#16 1#8 true []) s ∧
    exec .lockData s = exec (.exch s.params.opLock s.params.lockSelDataOtp s.params.lockP2 32#16 1#8 true []) s ∧
    exec .info s = exec (.exch s.params.opInfo s.params.infoMode s.params.infoP2 s.params.tInfoMs 4#8 false []) s

/-- R114, R153, R161: a payload above `MAX_PAYLOAD` or an n above 252 takes `Fault(INVARIANT)` before any event, and
changes nothing but the fault record. -/
def Obligations.OversizedOperandsTakeTheInvariantFault : Prop :=
  ∀ s : State, Ready s →
    (∀ opcode p1 p2 (payload : List Byte), payload.length ≤ 255 → s.params.maxPayload < payload.length →
      exec (.send opcode p1 p2 payload) s = .next (faulted .invariant s)) ∧
    (∀ n : Byte, 252 < n.toNat → exec (.recv n) s = .next (faulted .invariant s)) ∧
    (∀ opcode p1 p2 settle (n : Byte) sc (payload : List Byte), payload.length ≤ 255 → (sc = true → n = 1#8) →
      (s.params.maxPayload < payload.length ∨ 252 < n.toNat) →
      exec (.exch opcode p1 p2 settle n sc payload) s = .next (faulted .invariant s)) ∧
    ∀ opcode p1 p2 settle (n : Byte) sc drain (payload : List Byte), payload.length ≤ 255 → (sc = true → n = 1#8) →
      (s.params.maxPayload < payload.length ∨ 252 < n.toNat) →
      exec (.xact opcode p1 p2 settle n sc drain payload) s = .next (faulted .invariant s)

/-- R196: a descriptor issued while BUSY takes `Fault(HOST_PROTOCOL)`; nothing else changes but that the descriptor is
gone: it is not queued, not merged and not ignored. That `SEQ_PHASE` and `CUR_OP` stay, in the middle of the operation,
is the model's choice (log entry 4). -/
def Obligations.BusyEngineTakesTheProtocolFault : Prop :=
  ∀ (s : State) (d : List Byte) (rest : List Input), s.fault = false → s.seqPhase ≠ .ready → s.inbox = .issue d :: rest →
    step s = .next (faulted .hostProtocol { s with inbox := rest })

/-- R113: a reserved operation code, a wrong length, a reserved flag bit or `STATUS_CHECK` with n ≠ 1 takes
`Fault(HOST_PROTOCOL)` with no bus traffic and no change but the fault record. That the empty byte sequence, of which R113
does not speak, takes it too is the model's reading (log entry 19). -/
def Obligations.MalformedDescriptorsTakeTheProtocolFault : Prop :=
  ∀ (s : State) (d : List Byte) (rest : List Input), Ready s → s.inbox = .issue d :: rest →
    ((∃ op tail, d = op :: tail ∧ (op = 0x00#8 ∨ 0x0A ≤ op.toNat)) ∨ ∃ e, decode d = .error e) →
    step s = .next (faulted .hostProtocol { s with inbox := rest })

/-- R113: the reserved host operation's own effect is that fault. -/
def Obligations.ReservedOperationTakesTheProtocolFault : Prop :=
  ∀ (s : State) (op : Byte) (tail : List Byte), s.fault = false →
    exec (.reserved op tail) s = .next (faulted .hostProtocol s)

/-- R103, R113, R197: issuing a descriptor in READY runs the instruction it decodes to, and with no external action the
engine's turn runs the operation in progress. -/
def Obligations.StepRunsTheDecodedInstruction : Prop :=
  ∀ s : State,
    (∀ d rest i, Ready s → s.inbox = .issue d :: rest → decode d = .ok i →
      step s = exec i { s with inbox := rest }) ∧
    ∀ op p, InPhase op p s → s.inbox = [] → step s = exec op s

/-- R120, R121, R122: a line of a listing that names a host operation or a pseudo-instruction runs that instruction, with
the line taken off the listing (when the host takes its turns: the model's choice, log entry 12). -/
def Obligations.ListingLinesRunTheirInstruction : Prop :=
  ∀ (s : State) (i : Instr) (mark : Bool) (rest : List Line), Ready s → s.inbox = [] → s.host.inFlight = none →
    s.host.stopped = none → s.host.program = ⟨.assembly i, mark⟩ :: rest → i.wf = true →
    (i.isHostOp = true ∨ i.isPseudo = true) →
    step s = exec i { s with host := { s.host with program := rest, inFlight := some ⟨.assembly i, mark⟩ } }

/-! ## SEND and RECV -/

/-- R150 to R152: the CMD_TX step of SEND builds the frame in `TXBUF`, makes exactly one write of it, and ends the
operation, with OK on status 0 and with TRANSPORT_WRITE otherwise. Nothing else changes but the checksum unit and the device
agent. The model's choices in the device agent: a failed write to it in IDLE, and a write to it in EXECUTING with its
settle time passed and its response unread, or in UNKNOWN (log entry 9), the settle minimum noted (log entry 10) and the
response length noted (log entry 31). -/
def Obligations.SendCompletes : Prop :=
  ∀ (s : State) (opcode p1 : Byte) (p2 : U16) (payload : List Byte),
    InPhase (.send opcode p1 p2 payload) .cmdTx s →
    exec (.send opcode p1 p2 payload) s = .next (completed (if nextStatus s = 0#8 then 0x00#8 else 0x10#8) []
      (commandWritten opcode p1 p2 payload s))

/-- R154 to R160: an attempt of RECV that the transport answers with the valid frame of `data` ends the operation with OK
and exactly that data, in order, whatever attempts came before. Nothing else changes but what the attempt writes (R155,
R158) and the device agent: that every full-length read counts as the read of its response is the model's choice (log
entry 9). -/
def Obligations.RecvCompletesOnValidFrame : Prop :=
  ∀ (s : State) (n : Byte) (data : List Byte), InPhase (.recv n) .respRx s → n.toNat ≤ 252 →
    data.length = n.toNat → nextAnswer s = responseFrame data →
    exec (.recv n) s = .next (completed 0x00#8 data (fullAttempt (n.toNat + 3) (responseFrame data) s))

/-- R155, R156, R159: a short attempt of RECV is counted and, while attempts are left, only its bytes stand in `RXBUF`;
at the last attempt it ends the operation with TRANSPORT_READ. -/
def Obligations.RecvShortAttemptRetriesOrFails : Prop :=
  ∀ (s : State) (n : Byte), InPhase (.recv n) .respRx s → (nextAnswer s).length < n.toNat + 3 →
    (s.attempts + 1 ≠ s.params.readAttempts →
      exec (.recv n) s = .next (attempted (n.toNat + 3) (nextAnswer s) s)) ∧
    (s.attempts + 1 = s.params.readAttempts →
      exec (.recv n) s = .next (completed 0x11#8 [] (attempted (n.toNat + 3) (nextAnswer s) s)))

/-- R157, R158, R159, R268: a full-length attempt whose first byte is not n + 3 ends RECV with INTEGRITY_LENGTH, its
checksum right or wrong; one whose first byte is right and whose checksum does not match ends it with
INTEGRITY_CHECKSUM; neither is retried. That such a read, which does not validate, counts for the device agent as the read
of its response is the model's choice (log entry 9). -/
def Obligations.RecvRejectsInvalidFrame : Prop :=
  ∀ (s : State) (n : Byte), InPhase (.recv n) .respRx s → (nextAnswer s).length = n.toNat + 3 →
    (((nextAnswer s).getD 0 0#8).toNat ≠ n.toNat + 3 →
      exec (.recv n) s = .next (completed 0x20#8 [] (fullAttempt (n.toNat + 3) (nextAnswer s) s))) ∧
    (((nextAnswer s).getD 0 0#8).toNat = n.toNat + 3 →
      le16 ((nextAnswer s).getD (n.toNat + 1) 0#8) ((nextAnswer s).getD (n.toNat + 2) 0#8) ≠
        crc16 ((nextAnswer s).take (n.toNat + 1)) →
      exec (.recv n) s = .next (completed 0x21#8 [] (fullAttempt (n.toNat + 3) (nextAnswer s) s)))

/-- R156, R267: a transport that returns more than requested makes RECV take `Fault(TRANSPORT_CONTRACT)` at that attempt;
the attempt has been counted and its event stands. The model's choices: that the phase stays (log entry 4), that `RXBUF`
stays (log entry 5), and that the device agent stays, the overrun being no read of its response (log entry 9). -/
def Obligations.RecvOverrunTakesTheContractFault : Prop :=
  ∀ (s : State) (n : Byte), InPhase (.recv n) .respRx s → n.toNat + 3 < (nextAnswer s).length →
    exec (.recv n) s = .next (faulted .transportContract
      { s with
        transport := s.transport.afterAnswer
        attempts := s.attempts + 1
        events := .busRead s.params.devAddr (n.toNat + 3) (nextAnswer s) :: s.events })

/-- R155 to R159, R186, R190, R191: every receive phase of RECV, EXCH, XACT and WAKE fails alike: a short attempt is
repeated, and fails at the last attempt; a full-length frame that does not validate fails at once; more bytes than
requested are a contract fault. The model's choices: that this fault leaves the phase (log entry 4), `RXBUF` (log entry 5)
and the device agent, the overrun being no read of its response (log entry 9), that every full-length read is one (log
entry 9), and that the receive of the ready check is in WAKE_RX (log entry 39). -/
def Obligations.EveryReceivePhaseFailsAlike : Prop :=
  ∀ (s : State) (op : Instr) (p : Phase) (k : Nat), InPhase op p s → receiveLength op p = some k →
    ((nextAnswer s).length < k → s.attempts + 1 ≠ s.params.readAttempts →
      exec op s = .next (attempted k (nextAnswer s) s)) ∧
    ((nextAnswer s).length < k → s.attempts + 1 = s.params.readAttempts →
      exec op s = .next (completed (receptionCode p 0x11#8) [] (attempted k (nextAnswer s) s))) ∧
    ((nextAnswer s).length = k → ((nextAnswer s).getD 0 0#8).toNat ≠ k →
      exec op s = .next (completed (receptionCode p 0x20#8) [] (fullAttempt k (nextAnswer s) s))) ∧
    ((nextAnswer s).length = k → ((nextAnswer s).getD 0 0#8).toNat = k →
      le16 ((nextAnswer s).getD (k - 2) 0#8) ((nextAnswer s).getD (k - 1) 0#8) ≠ crc16 ((nextAnswer s).take (k - 2)) →
      exec op s = .next (completed (receptionCode p 0x21#8) [] (fullAttempt k (nextAnswer s) s))) ∧
    (k < (nextAnswer s).length →
      exec op s = .next (faulted .transportContract
        { s with
          transport := s.transport.afterAnswer
          attempts := s.attempts + 1
          events := .busRead s.params.devAddr k (nextAnswer s) :: s.events }))

/-- R163, R164: RECV after `m` short attempts and then the valid frame of `data`: m + 1 engine steps from its first
attempt it has ended with OK and `data`, after exactly m + 1 reads of n + 3 bytes, the history's newest first. -/
def Obligations.RecvRetriesUntilTheValidFrame : Prop :=
  ∀ (s : State) (n : Byte) (shorts : List (List Byte)) (data : List Byte) (more : List (List Byte)),
    InPhase (.recv n) .respRx s → Alone s → s.attempts = 0 → n.toNat ≤ 252 → data.length = n.toNat →
    shorts.length < s.params.readAttempts → (∀ b ∈ shorts, b.length < n.toNat + 3) →
    s.transport.answers = shorts ++ responseFrame data :: more →
    ∃ t, run (shorts.length + 1) s = .next t ∧ t.result = ⟨true, some 0x00#8, some data⟩ ∧ t.seqPhase = .ready ∧
      t.attempts = shorts.length + 1 ∧ t.rxlen = n.toNat + 3 ∧ t.transport.answers = more ∧
      t.events = .busRead s.params.devAddr (n.toNat + 3) (responseFrame data) ::
        ((shorts.reverse.map fun b => .busRead s.params.devAddr (n.toNat + 3) b) ++ s.events)

/-- R155, R163: RECV whose every attempt is short ends with TRANSPORT_READ after exactly `READ_ATTEMPTS` reads. -/
def Obligations.RecvGivesUpAfterReadAttempts : Prop :=
  ∀ (s : State) (n : Byte) (shorts more : List (List Byte)),
    InPhase (.recv n) .respRx s → Alone s → s.attempts = 0 → shorts.length = s.params.readAttempts →
    (∀ b ∈ shorts, b.length < n.toNat + 3) → s.transport.answers = shorts ++ more →
    ∃ t, run s.params.readAttempts s = .next t ∧ t.result = ⟨true, some 0x11#8, some []⟩ ∧ t.seqPhase = .ready ∧
      t.attempts = s.params.readAttempts ∧ t.transport.answers = more ∧
      t.events = (shorts.reverse.map fun b => .busRead s.params.devAddr (n.toNat + 3) b) ++ s.events

/-- R163: RECV succeeds if and only if some attempt within the first `READ_ATTEMPTS` returns exactly n + 3 bytes, every
earlier one was short, and that first full-length attempt has the right length byte and the right checksum. -/
def Obligations.RecvAcceptanceIsExact : Prop :=
  ∀ (s : State) (n : Byte), InPhase (.recv n) .respRx s → Alone s → HostIdle s → s.attempts = 0 → n.toNat ≤ 252 →
    s.result.valid = false → s.params.readAttempts ≤ s.transport.answers.length →
    ((∃ k t d, run k s = .next t ∧ t.result = ⟨true, some 0x00#8, some d⟩) ↔
      ∃ m, m < s.params.readAttempts ∧
        (∀ j, j < m → (s.transport.answers.getD j []).length < n.toNat + 3) ∧
        (s.transport.answers.getD m []).length = n.toNat + 3 ∧
        ((s.transport.answers.getD m []).getD 0 0#8).toNat = n.toNat + 3 ∧
        le16 ((s.transport.answers.getD m []).getD (n.toNat + 1) 0#8)
            ((s.transport.answers.getD m []).getD (n.toNat + 2) 0#8) =
          crc16 ((s.transport.answers.getD m []).take (n.toNat + 1)))

/-! ## WAKE, IDLE, SLEEP, WAIT -/

/-- R183 to R186, R181: the three steps of WAKE after its first: the general-call write whose status is ignored, the delay
of `T_WAKE_US`, and the ready frame `04 11 33 43`, which ends it with OK. Nothing else changes but the device agent. The
model's choices: that the device's wake settle counts as passed after `T_WAKE_US`, and that the full-length read reads its
response (log entry 9); that the ready frame is received in WAKE_RX and not in R155's RESP_RX (log entry 39). -/
def Obligations.WakeCompletes : Prop :=
  ∀ s : State,
    (InPhase .wake .wakeTx s →
      exec .wake s = .next { written s.params.generalCallAddr [] s with
        device := s.device.onWake, seqPhase := .wakeSettle }) ∧
    (InPhase .wake .wakeSettle s →
      exec .wake s = .next { delayed (.delayUs s.params.tWakeUs) s.params.tWakeUs s with
        device := s.device.onWakeSettle, seqPhase := .wakeRx, attempts := 0 }) ∧
    (InPhase .wake .wakeRx s → nextAnswer s = [0x04#8, 0x11#8, 0x33#8, 0x43#8] →
      exec .wake s = .next (completed 0x00#8 [] (fullAttempt 4 [0x04#8, 0x11#8, 0x33#8, 0x43#8] s)))

/-- R186: a validated ready response with another byte fails with READINESS_WAKE_CODE; a full-length one that does not
validate, or a short one at the last attempt, fails with READINESS_WAKE_NORESP; neither is a fault. The model's choices: that
a full-length read counts for the device agent as the read of its response, though it does not validate (log entry 9), and
that the ready frame is received in WAKE_RX (log entry 39). -/
def Obligations.WakeFailsWithReadiness : Prop :=
  ∀ s : State, InPhase .wake .wakeRx s →
    (∀ b : Byte, b ≠ 0x11#8 → nextAnswer s = responseFrame [b] →
      exec .wake s = .next (completed 0x40#8 [] (fullAttempt 4 (responseFrame [b]) s))) ∧
    (∀ c, (nextAnswer s).length = 4 → validateFrame 4 (nextAnswer s) = .error c →
      exec .wake s = .next (completed 0x41#8 [] (fullAttempt 4 (nextAnswer s) s))) ∧
    ((nextAnswer s).length < 4 → s.attempts + 1 = s.params.readAttempts →
      exec .wake s = .next (completed 0x41#8 [] (attempted 4 (nextAnswer s) s)))

/-- R187, R188: IDLE and SLEEP put their word in `TXBUF[0]`, write it once to `DEV_ADDR`, and end with OK on status 0 and
TRANSPORT_WRITE otherwise. Nothing else changes but the device agent. The model's choices in it: that no ready response is
pending after the word, and what a word does to it in EXECUTING with its settle time passed, or in UNKNOWN (log entry 9). -/
def Obligations.IdleAndSleepComplete : Prop :=
  ∀ s : State,
    (InPhase .idle .idleTx s →
      exec .idle s = .next (completed (if nextStatus s = 0#8 then 0x00#8 else 0x10#8) []
        { written s.params.devAddr [s.params.wordIdle] (txHolds [s.params.wordIdle] s) with
          device := s.device.onIdle })) ∧
    (InPhase .sleep .sleepTx s →
      exec .sleep s = .next (completed (if nextStatus s = 0#8 then 0x00#8 else 0x10#8) []
        { written s.params.devAddr [s.params.wordSleep] (txHolds [s.params.wordSleep] s) with
          device := s.device.onSleep }))

/-- R189: WAIT makes one delay of t milliseconds and ends with OK; no bus event, and nothing else changes. -/
def Obligations.WaitCompletes : Prop :=
  ∀ (s : State) (ms : U16), InPhase (.wait ms) .delay s →
    exec (.wait ms) s = .next (completed 0x00#8 [] (delayed (.delayMs ms.toNat) (1000 * ms.toNat) s))

/-- R183, W-1: a WAKE issued to a device that is ASLEEP or UNKNOWN, whose read returns the ready frame, has ended with OK
after four steps, with the three events of R183 in order whatever the write's status, and the device is in IDLE (R181). The
number of steps rests on log entry 1. That the device is in IDLE rests on log entry 9: the model counts the wake settle
as passed once the engine has delayed `T_WAKE_US`, whose sufficiency R297 leaves open. -/
def Obligations.WakeRunsToReady : Prop :=
  ∀ (s : State) (more : List (List Byte)), Ready s → s.inbox = [.issue [0x04#8]] →
    (s.device.devState = .asleep ∨ s.device.devState = .unknown) →
    s.transport.answers = [0x04#8, 0x11#8, 0x33#8, 0x43#8] :: more →
    ∃ t, run 4 s = .next t ∧ t.result = ⟨true, some 0x00#8, some []⟩ ∧ t.seqPhase = .ready ∧ t.curOp = none ∧
      t.device.devState = .idle ∧ t.attempts = 1 ∧ t.crcAcc = 0x4333#16 ∧
      t.elapsedUs = s.elapsedUs + s.params.tWakeUs ∧
      t.events = [.busRead s.params.devAddr 4 [0x04#8, 0x11#8, 0x33#8, 0x43#8], .delayUs s.params.tWakeUs,
        .busWrite s.params.generalCallAddr [] (nextStatus s)] ++ s.events

/-! ## EXCH, XACT and the pseudo-instructions -/

/-- R190: the three steps of EXCH after its first: one write of the frame, which alone ends it with TRANSPORT_WRITE on a
non-zero status; the settle delay of the descriptor; and the read, where a valid frame ends it with OK and its payload,
but with DEVICE_STATUS and the status byte where `STATUS_CHECK` is set and that byte is not 0x00. Nothing else changes but
the checksum unit and the device agent. The model's choices in the device agent: what a write and a full-length read do to
it where R181 leaves it open (log entry 9), the settle minimum noted (log entry 10) and the response length noted (log
entry 31). -/
def Obligations.ExchCompletes : Prop :=
  ∀ (s : State) (opcode p1 : Byte) (p2 settle : U16) (n : Byte) (sc : Bool) (payload : List Byte),
    (InPhase (.exch opcode p1 p2 settle n sc payload) .cmdTx s →
      (nextStatus s = 0#8 → exec (.exch opcode p1 p2 settle n sc payload) s =
        .next { commandWritten opcode p1 p2 payload s with seqPhase := .settle }) ∧
      (nextStatus s ≠ 0#8 → exec (.exch opcode p1 p2 settle n sc payload) s =
        .next (completed 0x10#8 [] (commandWritten opcode p1 p2 payload s)))) ∧
    (InPhase (.exch opcode p1 p2 settle n sc payload) .settle s →
      exec (.exch opcode p1 p2 settle n sc payload) s =
        .next { delayed (.delayMs settle.toNat) (1000 * settle.toNat) s with seqPhase := .respRx, attempts := 0 }) ∧
    ∀ data : List Byte, InPhase (.exch opcode p1 p2 settle n sc payload) .respRx s → n.toNat ≤ 252 →
      data.length = n.toNat → nextAnswer s = responseFrame data →
      exec (.exch opcode p1 p2 settle n sc payload) s =
        .next (completed (if sc = true ∧ data.getD 0 0#8 ≠ 0x00#8 then 0x30#8 else 0x00#8) data
          (fullAttempt (n.toNat + 3) (responseFrame data) s))

/-- R122, R220 to R233: each pseudo-instruction completes as its EXCH: in RESP_RX a valid frame ends it with OK and the
payload, or with DEVICE_STATUS where its profile checks the status and that byte is not 0x00. That executing it is executing
its EXCH is the model's reading of R122 (log entry 18); that VERIFY, WRITE4 and WRITE32 with byte lists of other lengths
than those of R225, R229 and R230 complete so too is the model's choice (log entry 32), and so is that the full-length read
counts for the device agent as the read of its response (log entry 9). -/
def Obligations.PseudoInstructionsComplete : Prop :=
  ∀ (s : State) (i : Instr) (data : List Byte) (opcode p1 : Byte) (p2 settle : U16) (n : Byte) (sc : Bool)
    (payload : List Byte), i.isPseudo = true → expand s.params i = .exch opcode p1 p2 settle n sc payload →
    InPhase (expand s.params i) .respRx s → data.length = n.toNat → nextAnswer s = responseFrame data →
    exec i s = .next (completed (if sc = true ∧ data.getD 0 0#8 ≠ 0x00#8 then 0x30#8 else 0x00#8) data
      (fullAttempt (n.toNat + 3) (responseFrame data) s))

/-- R191, R184 to R186, R190: the eight phases of XACT where each succeeds: the wake write whatever its status, the wake
settle, the ready frame, the command frame written with status 0, the settle delay of the descriptor, the valid response
frame (with the status byte 0x00 where `STATUS_CHECK` is set), the drain, and the best-effort idle, whose status is
ignored and which ends the operation with OK and the payload that the exchange received. Nothing else changes but the
checksum unit and the device agent. That the
last step takes the payload from `RXBUF` is the model's choice (log entry 24), as is what the steps do to the device agent
where R181 leaves it open (log entry 9) and what it notes of the command (log entries 10 and 31), and that the ready frame is
received in WAKE_RX (log entry 39). -/
def Obligations.XactCompletes : Prop :=
  ∀ (s : State) (opcode p1 : Byte) (p2 settle : U16) (n : Byte) (sc : Bool) (drain : Byte) (payload : List Byte),
    (InPhase (.xact opcode p1 p2 settle n sc drain payload) .wakeTx s →
      exec (.xact opcode p1 p2 settle n sc drain payload) s = .next { written s.params.generalCallAddr [] s with
        device := s.device.onWake, seqPhase := .wakeSettle }) ∧
    (InPhase (.xact opcode p1 p2 settle n sc drain payload) .wakeSettle s →
      exec (.xact opcode p1 p2 settle n sc drain payload) s =
        .next { delayed (.delayUs s.params.tWakeUs) s.params.tWakeUs s with
          device := s.device.onWakeSettle, seqPhase := .wakeRx, attempts := 0 }) ∧
    (InPhase (.xact opcode p1 p2 settle n sc drain payload) .wakeRx s →
      nextAnswer s = [0x04#8, 0x11#8, 0x33#8, 0x43#8] →
      exec (.xact opcode p1 p2 settle n sc drain payload) s =
        .next { fullAttempt 4 [0x04#8, 0x11#8, 0x33#8, 0x43#8] s with seqPhase := .cmdTx }) ∧
    (InPhase (.xact opcode p1 p2 settle n sc drain payload) .cmdTx s → nextStatus s = 0#8 →
      exec (.xact opcode p1 p2 settle n sc drain payload) s =
        .next { commandWritten opcode p1 p2 payload s with seqPhase := .settle }) ∧
    (InPhase (.xact opcode p1 p2 settle n sc drain payload) .settle s →
      exec (.xact opcode p1 p2 settle n sc drain payload) s =
        .next { delayed (.delayMs settle.toNat) (1000 * settle.toNat) s with seqPhase := .respRx, attempts := 0 }) ∧
    (∀ data : List Byte, InPhase (.xact opcode p1 p2 settle n sc drain payload) .respRx s → n.toNat ≤ 252 →
      data.length = n.toNat → (sc = true → data.getD 0 0#8 = 0x00#8) → nextAnswer s = responseFrame data →
      exec (.xact opcode p1 p2 settle n sc drain payload) s =
        .next { fullAttempt (n.toNat + 3) (responseFrame data) s with seqPhase := .drain }) ∧
    (InPhase (.xact opcode p1 p2 settle n sc drain payload) .drain s →
      exec (.xact opcode p1 p2 settle n sc drain payload) s =
        .next { delayed (.delayMs drain.toNat) (1000 * drain.toNat) s with seqPhase := .idleTx }) ∧
    ∀ data : List Byte, InPhase (.xact opcode p1 p2 settle n sc drain payload) .idleTx s → data.length = n.toNat →
      s.rxbuf = bufferOf (responseFrame data) →
      exec (.xact opcode p1 p2 settle n sc drain payload) s =
        .next (completed 0x00#8 data
          { written s.params.devAddr [s.params.wordIdle] (txHolds [s.params.wordIdle] s) with
            device := s.device.onIdle })

/-- R193: XACT stops at the step that fails, with no idle and no other traffic: a wake code, a write status, or a device
status that is not zero ends it at once. The model's choices: what a failed write and a full-length read do to the device
agent (log entry 9), and that the ready frame is received in WAKE_RX (log entry 39). -/
def Obligations.XactStopsAtItsFailure : Prop :=
  ∀ (s : State) (opcode p1 : Byte) (p2 settle : U16) (n : Byte) (sc : Bool) (drain : Byte) (payload : List Byte)
    (data : List Byte),
    (InPhase (.xact opcode p1 p2 settle n sc drain payload) .wakeRx s → data.length = 1 → data ≠ [0x11#8] →
      nextAnswer s = responseFrame data →
      exec (.xact opcode p1 p2 settle n sc drain payload) s =
        .next (completed 0x40#8 [] (fullAttempt 4 (responseFrame data) s))) ∧
    (InPhase (.xact opcode p1 p2 settle n sc drain payload) .cmdTx s → nextStatus s ≠ 0#8 →
      exec (.xact opcode p1 p2 settle n sc drain payload) s =
        .next (completed 0x10#8 [] (commandWritten opcode p1 p2 payload s))) ∧
    (InPhase (.xact opcode p1 p2 settle n true drain payload) .respRx s → n = 1#8 → data.length = 1 →
      data ≠ [0x00#8] → nextAnswer s = responseFrame data →
      exec (.xact opcode p1 p2 settle n true drain payload) s =
        .next (completed 0x30#8 data (fullAttempt 4 (responseFrame data) s)))

/-- R191, R197, R308: a whole XACT. Issued in READY, with the ready frame and a valid response from the transport and
status 0 for the command, it has ended after nine steps with OK and the response's payload; its eight events stand in
R191's order, newest first; and the time has grown by the three delays at least. The number of steps rests on
log entry 1. -/
def Obligations.XactRunsToCompletion : Prop :=
  ∀ (s : State) (opcode p1 : Byte) (p2 settle : U16) (n : Byte) (sc : Bool) (drain : Byte) (payload data : List Byte)
    (wakeStatus idleStatus : Byte) (statuses : List Byte) (answers : List (List Byte)),
    Ready s → payload.length ≤ s.params.maxPayload → n.toNat ≤ 252 → (sc = true → n = 1#8) →
    data.length = n.toNat → (sc = true → data = [0x00#8]) →
    s.inbox = [.issue (encode s.params (.xact opcode p1 p2 settle n sc drain payload))] →
    s.transport.statuses = wakeStatus :: 0x00#8 :: idleStatus :: statuses →
    s.transport.answers = [0x04#8, 0x11#8, 0x33#8, 0x43#8] :: responseFrame data :: answers →
    ∃ t, run 9 s = .next t ∧ t.result = ⟨true, some 0x00#8, some data⟩ ∧ t.seqPhase = .ready ∧ t.curOp = none ∧
      t.fault = false ∧ t.txlen = 1 ∧ t.rxlen = n.toNat + 3 ∧ t.attempts = 1 ∧ t.crcOut = s.crcOut ∧
      t.elapsedUs = s.elapsedUs + s.params.tWakeUs + 1000 * settle.toNat + 1000 * drain.toNat ∧
      t.events = [.busWrite s.params.devAddr [s.params.wordIdle] idleStatus, .delayMs drain.toNat,
        .busRead s.params.devAddr (n.toNat + 3) (responseFrame data), .delayMs settle.toNat,
        .busWrite s.params.devAddr (commandFrame opcode p1 p2 payload) 0x00#8,
        .busRead s.params.devAddr 4 [0x04#8, 0x11#8, 0x33#8, 0x43#8], .delayUs s.params.tWakeUs,
        .busWrite s.params.generalCallAddr [] wakeStatus] ++ s.events

/-! ## The wire formats -/

/-- R91, R95, R97 to R99, R69: each wire format is one bus event with its bytes, and as an instruction of the table it is
that event alone, with what it does to the buffers, the checksum unit and the device. Nothing else changes. The model's
choices in the device agent: where R181 leaves it open (log entry 9), and what it notes of a command (log entries 10 and
31). What a row
does by itself, outside a host operation, is the model's choice (log entry 16), and so is that W-CMD keeps R153's bound on
its payload and W-RSP R161's, with `Fault(INVARIANT)` beyond them. The read of W-RSP by itself is no RECV's, and `ATTEMPTS`
counts the reads of the RECV in progress (R33), so that it stays. -/
def Obligations.WireFormatsComplete : Prop :=
  ∀ s : State, s.fault = false →
    (∀ opcode p1 p2 (payload : List Byte), payload.length ≤ s.params.maxPayload →
      exec (.wCmd opcode p1 p2 payload) s = .next (commandWritten opcode p1 p2 payload s)) ∧
    (∀ opcode p1 p2 (payload : List Byte), s.params.maxPayload < payload.length →
      exec (.wCmd opcode p1 p2 payload) s = .next (faulted .invariant s)) ∧
    (∀ data : List Byte, 252 < data.length → exec (.wRsp data) s = .next (faulted .invariant s)) ∧
    (∀ data : List Byte, data.length ≤ 252 →
      exec (.wRsp data) s = .next { fullAttempt (data.length + 3) (responseFrame data) s with
        transport := s.transport, attempts := s.attempts }) ∧
    exec .wIdle s = .next { written s.params.devAddr [s.params.wordIdle] (txHolds [s.params.wordIdle] s) with
      device := s.device.onIdle } ∧
    exec .wSleep s = .next { written s.params.devAddr [s.params.wordSleep] (txHolds [s.params.wordSleep] s) with
      device := s.device.onSleep } ∧
    exec .wWake s = .next { written s.params.generalCallAddr [] s with device := s.device.onWake }

/-! ## Encodings -/

/-- R103 to R113: the descriptor of every well-formed host operation, and of every reserved one, decodes to it. -/
def Obligations.DescriptorsDecodeToTheirOperation : Prop :=
  ∀ (p : Config.Params) (i : Instr), i.wf = true → (i.isHostOp = true ∨ ∃ op rest, i = .reserved op rest) →
    decode (encode p i) = .ok i

/-- R103 to R113: whatever decodes does so to a well-formed host operation or reserved operation, whose descriptor it is:
no two descriptors mean the same, and no bit is dropped. -/
def Obligations.DecodedDescriptorsEncodeBack : Prop :=
  ∀ (p : Config.Params) (d : List Byte) (i : Instr), decode d = .ok i →
    encode p i = d ∧ i.wf = true ∧ (i.isHostOp = true ∨ ∃ op rest, i = .reserved op rest)

/-- R122: the descriptor of every well-formed pseudo-instruction decodes to the EXCH it expands to. -/
def Obligations.PseudoDescriptorsDecodeToTheirExchange : Prop :=
  ∀ (p : Config.Params) (i : Instr), i.wf = true → i.isPseudo = true → decode (encode p i) = .ok (expand p i)

/-- R162, R90, R101: on the bus, the transmission of every well-formed wire format decodes to it: a reference decoder
recovers every field of a command frame, and the payload of a response frame. -/
def Obligations.WireFormatsDecodeToThemselves : Prop :=
  ∀ (h : Config.Handle) (i : Instr), i.wf = true →
    (i.isWire = true → (∀ data, i ≠ .wRsp data) → i ≠ .wWake →
      decodeWire h.params .toDevice h.params.devAddr (encode h.params i) = .ok i) ∧
    (i = .wWake → decodeWire h.params .toDevice h.params.generalCallAddr (encode h.params i) = .ok i) ∧
    ∀ data, i = .wRsp data → decodeWire h.params .toEngine h.params.devAddr (encode h.params i) = .ok i

/-- R104, R108, R109, L2.2: a few descriptors written out byte by byte decode to the operations they stand for. -/
def Obligations.WrittenOutDescriptorsDecode : Prop :=
  decode [0x01#8, 0x02#8, 0x04#8, 0x11#8] = .ok (.crc [0x04#8, 0x11#8]) ∧
  decode [0x07#8, 0x2C#8, 0x01#8] = .ok (.wait 300#16) ∧
  decode [0x08#8, 0x17#8, 0x81#8, 0x00#8, 0x00#8, 0x20#8, 0x00#8, 0x01#8, 0x01#8, 0x00#8] =
    .ok (.exch 0x17#8 0x81#8 0#16 32#16 1#8 true []) ∧
  decode [0x05#8] = .ok .idle ∧ decode [0x03#8, 0xFC#8] = .ok (.recv 252#8)

/-! ## The host's port, the device and the sessions -/

/-- R27: the host-visible registers: a read delivers the register's value, and is the model fault where it holds none; the
value of STATUS is put together bit by bit, those of ERR and DATA are `RESULT`'s and are held only while `VALID` is 1,
that of CRC_OUT is `CRC_OUT`, and that of PHASE is R23's encoding of `SEQ_PHASE`. That `SEQ_PHASE` and `CUR_OP` stay where
the read takes the fault in the middle of an operation is the model's choice (log entry 4); that held values are delivered
while `FAULT` is 1 too is its reading of R27 and R267 (log entry 22). -/
def Obligations.RegisterReadsDeliverTheView : Prop :=
  ∀ (s : State) (rest : List Input) (r : HostReg), s.inbox = .readReg r :: rest →
    (∀ v, regValue s r = some v →
      step s = .next { s with inbox := rest, host := { s.host with reads := s.host.reads ++ [(r, v)] } }) ∧
    (regValue s r = none → s.fault = false → step s = .next (faulted .hostProtocol { s with inbox := rest })) ∧
    regValue s .status = some (.byte (statusByte s)) ∧
    ((statusByte s).getLsbD 0 = true ↔ s.seqPhase ≠ .ready) ∧ (statusByte s).getLsbD 1 = s.fault ∧
    (statusByte s).getLsbD 2 = s.result.valid ∧
    (statusByte s).getLsbD 3 = (s.result.valid && decide (s.result.err = some 0x00#8)) ∧
    (statusByte s).extractLsb' 4 4 = 0#4 ∧
    (s.result.valid = false → regValue s .err = none ∧ regValue s .data = none) ∧
    (∀ c, s.result.valid = true → s.result.err = some c → regValue s .err = some (.byte c)) ∧
    (∀ d, s.result.valid = true → s.result.data = some d → regValue s .data = some (.bytes d)) ∧
    (s.crcOut = none → regValue s .crcOut = none) ∧ (∀ v, s.crcOut = some v → regValue s .crcOut = some (.word v)) ∧
    ∀ q ∈ phaseCodes, s.seqPhase = q.1 → regValue s .phase = some (.nibble q.2)

/-- R121: the host takes the result of the line in progress, keeps it in order, for a CRC line with the u16 it ended with,
and stops the program at the first failure of a line without `?`; with no line in progress and a stopped program it
issues nothing more. That taking a result is a step of its own is the model's choice (log entry 12). -/
def Obligations.ProgramStopsAtItsFirstFailure : Prop :=
  ∀ (s : State), Ready s → s.inbox = [] →
    (∀ l c d, s.host.inFlight = some l → s.result = ⟨true, some c, d⟩ →
      ∃ t r, step s = .next t ∧ t.host.results = s.host.results ++ [r] ∧ r.result = s.result ∧
        (∀ bytes, l.op = .assembly (.crc bytes) → r.crc = s.crcOut) ∧
        (∀ i, l.op = .assembly i → (i.isHostOp = true ∨ i.isPseudo = true) → (∀ bytes, i ≠ .crc bytes) → r.crc = none) ∧
        (∀ op tail, l.op = .raw (op :: tail) → r.crc = if op = 0x01#8 then s.crcOut else none) ∧
        t.host.inFlight = none ∧ t.host.program = s.host.program ∧
        t.host.stopped = (if l.bestEffort = true ∨ c = 0x00#8 then none else some c)) ∧
    (∀ c, s.host.inFlight = none → s.host.stopped = some c → step s = .next s ∧ programOutcome s = .failed c) ∧
    (HostIdle s → s.host.stopped = none → step s = .next s ∧ programOutcome s = .ok)

/-- R181, R38, R296: what the transmissions and a read do to the device: the rows of R181's table that give a next state,
and the timing ghost written at each successful command write, with the nine minimums of R296. The model's choices: that a
command of unknown settle minimum counts as not settled, and one whose minimum is above the lower bound on time (R11), that
every full-length read reads the response, and that the wake settle has passed (log entry 9); that the largest minimum
stands where commands share an opcode (log entry 10); that a power-on empties the ghost (log entry 30). -/
def Obligations.DeviceFollowsItsTable : Prop :=
  ∀ (p : Config.Params) (d : Device) (opcode p1 : Byte) (p2 : U16) (payload : List Byte) (now : Nat),
    ((d.devState = .asleep ∨ d.devState = .unknown) → d.onWake.onWakeSettle.devState = .idle ∧
      d.onWake.onWakeSettle.readyPending = true) ∧
    (d.devState = .idle → (d.onCommand p opcode p1 p2 payload 0#8 now).devState = .executing) ∧
    (d.devState = .executing → d.settled? now = some true → (d.onFullRead now).devState = .idle ∧
      (d.onFullRead now).onIdle.devState = .idle ∧ (d.onFullRead now).onSleep.devState = .asleep) ∧
    (d.devState = .idle → d.onIdle.devState = .idle ∧ d.onSleep.devState = .asleep) ∧
    (d.devState = .asleep → (∀ st, (d.onCommand p opcode p1 p2 payload st now).devState = .asleep) ∧
      d.onIdle.devState = .asleep ∧ d.onSleep.devState = .asleep) ∧
    d.onTimeout.devState = .asleep ∧
    ((d.devState = .idle ∨ d.devState = .executing) → d.onWake.devState = .unknown) ∧
    (d.devState = .executing → d.settled? now ≠ some true →
      (∀ st, (d.onCommand p opcode p1 p2 payload st now).devState = .unknown) ∧
      d.onIdle.devState = .unknown ∧ d.onSleep.devState = .unknown) ∧
    (d.onCommand p opcode p1 p2 payload 0#8 now).lastCmd = some now ∧
    (d.onCommand p opcode p1 p2 payload 0#8 now).reqSettle = settleMinimum p opcode ∧
    (∀ r ∈ commandMinimums p, (∀ q ∈ commandMinimums p, q.1 = r.1 → q.2 ≤ r.2) → settleMinimum p r.1 = some r.2) ∧
    ((∀ r ∈ commandMinimums p, r.1 ≠ opcode) → settleMinimum p opcode = none) ∧
    (∀ st, st ≠ 0#8 → (d.onCommand p opcode p1 p2 payload st now).lastCmd = d.lastCmd ∧
      (d.onCommand p opcode p1 p2 payload st now).reqSettle = d.reqSettle) ∧
    Device.poweredOn.devState = .asleep ∧ Device.poweredOn.lastCmd = none ∧ Device.poweredOn.reqSettle = none

/-- R240, D41: from ⌈length / 32⌉ responses of 32 bytes the output is their first `length` bytes, in call order. -/
def Obligations.RandomOutputIsTheFirstBytes : Prop :=
  ∀ (length : Nat) (blocks : List (List Byte)), blocks.length = randomCalls length → (∀ b ∈ blocks, b.length = 32) →
    randomOutput length blocks = blocks.flatten.take length ∧ (randomOutput length blocks).length = length

/-- R245: a zone read or write whose length is not 4 or 32 fails with ARGUMENT and has no session; the two lengths have
the profiles of R226, R227, R229 and R230. -/
def Obligations.ZoneLengthsAreFourOrThirtyTwo : Prop :=
  ∀ (z : Zone) (w : U16),
    (∀ len, readZone z w len = .error .argument ↔ len ≠ 4 ∧ len ≠ 32) ∧
    readZone z w 4 = .ok (.read4 z w) ∧ readZone z w 32 = .ok (.read32 z w) ∧
    ∀ data : List Byte,
      (writeZone z w data = .error .argument ↔ data.length ≠ 4 ∧ data.length ≠ 32) ∧
      ∀ i, writeZone z w data = .ok i → i.wf = true ∧ (i = .write4 z w data ∨ i = .write32 z w data)

/-- R27, R267: a host write to a host-visible register takes `Fault(HOST_PROTOCOL)` and has no effect on any register: all
read as before, STATUS but for its FAULT bit. Nothing else changes (that the phase stays: the model's choice, log
entry 4). -/
def Obligations.HostWritesTakeTheProtocolFault : Prop :=
  ∀ (s : State) (r : HostReg) (v : List Byte) (rest : List Input), s.fault = false → s.inbox = .writeReg r v :: rest →
    ∃ t, t = faulted .hostProtocol { s with inbox := rest } ∧ step s = .next t ∧
      (∀ q, q ≠ .status → regValue t q = regValue s q) ∧ statusByte t = statusByte s ||| 0x02#8

/-- R293, R10: `BusInit` is one event that carries `BUS_CLOCK`, and nothing else changes but the model's note that it has
happened (when and how often it may come: the model's choice, log entry 21): an operation in progress stays one that was
issued before it, or after an earlier one. -/
def Obligations.BusInitIsOneEvent : Prop :=
  ∀ (s : State) (rest : List Input), s.inbox = .busInit :: rest →
    step s = .next { s with
      inbox := rest
      transport := { s.transport with initDone := true }
      events := .busInit s.params.busClock :: s.events }

/-- R198 (a) and (b), with R186, R190, R122 and R293: where the premises on the transport's answers hold, and the operation
and the transmission it is answered for were issued after `BusInit` (log entry 21), the ready check of WAKE and of XACT
succeeds, and the response of a command profile whose settle minimum has passed ends it with OK, or with DEVICE_STATUS where its profile checks a status byte that is not 0x00. Which device states the premises
speak of rests on log entries 9 and 10, and the command's response length on log entry 31. That a command issued outside a
session to a device still in IDLE is premised too is the model's choice (log entry 36), as is that a SIGN with no random
phase before it is (R244; log entry 38). That the ready check is in WAKE_RX is log entry 39. That executing a
pseudo-instruction is executing its EXCH is the model's reading of R122 (log entry 18), and that VERIFY, WRITE4 and WRITE32
with byte lists of other lengths than R225, R229 and R230 show do so too is the model's choice (log entry 32). -/
def Obligations.PremisedAnswersSucceedOrReportStatus : Prop :=
  ∀ s : State, AfterBusInit s →
    (ReadyPremise s → s.device.devState = .idle → s.device.readyPending = true →
      (InPhase .wake .wakeRx s →
        exec .wake s = .next (completed 0x00#8 [] (fullAttempt 4 [0x04#8, 0x11#8, 0x33#8, 0x43#8] s))) ∧
      ∀ opcode p1 p2 settle n sc drain payload, InPhase (.xact opcode p1 p2 settle n sc drain payload) .wakeRx s →
        exec (.xact opcode p1 p2 settle n sc drain payload) s =
          .next { fullAttempt 4 [0x04#8, 0x11#8, 0x33#8, 0x43#8] s with seqPhase := .cmdTx }) ∧
    (ResponsePremise s → s.device.devState = .executing → s.device.settled? s.elapsedUs = some true →
      ∀ (i : Instr) (opcode p1 : Byte) (p2 settle : U16) (n : Byte) (sc : Bool) (payload : List Byte),
        i.isPseudo = true → expand s.params i = .exch opcode p1 p2 settle n sc payload →
        InPhase (expand s.params i) .respRx s → s.device.respLength = some n.toNat →
        ∃ data : List Byte, data.length = n.toNat ∧ nextAnswer s = responseFrame data ∧
          exec i s = .next (completed (if sc = true ∧ data.getD 0 0#8 ≠ 0x00#8 then 0x30#8 else 0x00#8) data
            (fullAttempt (n.toNat + 3) (responseFrame data) s)))

/-- R220 to R233, R296, R198 (b): where the nine opcodes differ, each command profile waits exactly its own settle minimum,
and the model knows its response length from its frame (how it knows it: log entry 31). -/
def Obligations.ProfilesCarryTheirMinimumAndLength : Prop :=
  ∀ (h : Config.Handle) (i : Instr) (opcode p1 : Byte) (p2 settle : U16) (n : Byte) (sc : Bool) (payload : List Byte),
    ((commandMinimums h.params).map Prod.fst).Nodup → i.isPseudo = true → i.wf = true →
    (∀ digest, i = .nonce digest → digest.length = 32) →
    expand h.params i = .exch opcode p1 p2 settle n sc payload →
    settleMinimum h.params opcode = some settle.toNat ∧
      responseLength h.params opcode p1 p2 payload = some n.toNat
end

