-- ==== Sys2Proof/Laws/Checksum.lean ====
section
/-! SUPPORT. The Checksum Engine: a byte step without the bit counter, and computations over appended sequences. -/

namespace Sys2Proof.Machine

/-- A byte step on the accumulator alone: its eight bit steps, least-significant bit first (R132). -/
def crcByte (acc : U16) (b : Byte) : U16 :=
  crcBitStep (crcBitStep (crcBitStep (crcBitStep (crcBitStep (crcBitStep (crcBitStep (crcBitStep acc
    (b.getLsbD 0)) (b.getLsbD 1)) (b.getLsbD 2)) (b.getLsbD 3)) (b.getLsbD 4)) (b.getLsbD 5)) (b.getLsbD 6))
    (b.getLsbD 7)

/-- From `CRC_BIT = 0` a byte step takes the eight bits in order and leaves `CRC_BIT = 0`. -/
theorem crcByteStep_zero (acc : U16) (b : Byte) : crcByteStep ⟨acc, 0#3⟩ b = ⟨crcByte acc b, 0#3⟩ := by
  simp [crcByteStep, crcUnitStep, crcByte]

/-- A computation from `CRC_BIT = 0`. -/
theorem foldl_crcByteStep (s : List Byte) : ∀ acc : U16,
    s.foldl crcByteStep ⟨acc, 0#3⟩ = ⟨s.foldl crcByte acc, 0#3⟩ := by
  induction s with
  | nil => intro acc; rfl
  | cons b s ih => intro acc; rw [List.foldl_cons, crcByteStep_zero, ih]; rfl

/-- The unit after a whole computation. -/
theorem crcRun_eq (s : List Byte) : crcRun s = ⟨s.foldl crcByte 0#16, 0#3⟩ := foldl_crcByteStep s 0#16

/-- `CRC_BIT` is 0 after a whole computation (R29). -/
@[simp] theorem crcRun_bit (s : List Byte) : (crcRun s).bit = 0#3 := by rw [crcRun_eq]

/-- `crc16` as a fold of byte steps from the initial value. -/
theorem crc16_eq_foldl (s : List Byte) : crc16 s = s.foldl crcByte 0#16 := by rw [crc16, crcRun_eq]

/-- The checksum of no bytes. -/
@[simp] theorem crc16_nil : crc16 [] = 0#16 := rfl

/-- The checksum goes on from the checksum of what came before. -/
theorem crc16_append (s t : List Byte) : crc16 (s ++ t) = t.foldl crcByte (crc16 s) := by
  simp [crc16_eq_foldl]

end Sys2Proof.Machine
end

