-- ==== Sys2Proof/Laws/Frames.lean ====
section
/-! SUPPORT. Byte order and the frames' lengths. -/

namespace Sys2Proof.Machine

/-- Assembling the two bytes of a u16 gives it back (R9). -/
@[simp] theorem le16_lo8_hi8 (v : U16) : le16 (lo8 v) (hi8 v) = v := by
  apply BitVec.eq_of_getLsbD_eq
  intro i hi
  simp only [le16, lo8, hi8, BitVec.getLsbD_or, BitVec.getLsbD_setWidth, BitVec.getLsbD_shiftLeft,
    BitVec.getLsbD_extractLsb']
  by_cases h : i < 8
  · simp [h, hi]
  · have h8 : 8 + (i - 8) = i := by omega
    have h2 : i - 8 < 16 := by omega
    have h3 : i - 8 < 8 := by omega
    simp [h, hi, h2, h3, h8]

/-- A command frame is 8 + P bytes long (R90, R92). -/
@[simp] theorem length_commandFrame (opcode p1 : Byte) (p2 : U16) (payload : List Byte) :
    (commandFrame opcode p1 p2 payload).length = 8 + payload.length := by
  simp [commandFrame, commandBody]; omega

/-- A response frame is n + 3 bytes long (R95). -/
@[simp] theorem length_responseFrame (payload : List Byte) :
    (responseFrame payload).length = payload.length + 3 := by
  simp [responseFrame, responseBody]

/-- The covered bytes of a command frame are 5 + P (R93). -/
@[simp] theorem length_commandBody (opcode p1 : Byte) (p2 : U16) (payload : List Byte) :
    (commandBody opcode p1 p2 payload).length = 5 + payload.length := by
  simp [commandBody]; omega

/-- Validation accepts a payload only from a frame that passes both checks, and says which check fails first (R268). -/
theorem validateFrame_ok_iff (k : Nat) (s d : List Byte) :
    validateFrame k s = .ok d ↔
      lengthByteOk k s = true ∧ receivedChecksum k s = crc16 (coveredBytes k s) ∧ d = framePayload k s := by
  unfold validateFrame
  by_cases h1 : lengthByteOk k s = true
  · by_cases h2 : receivedChecksum k s = crc16 (coveredBytes k s)
    · simp only [h1, h2, if_true, true_and, Except.ok.injEq]
      exact eq_comm
    · simp [h1, h2]
  · simp [h1]

/-- A valid response frame validates, and its payload is what it carries (R95, R157, R158, R160). -/
theorem validateFrame_responseFrame (d : List Byte) (h : d.length ≤ 252) :
    validateFrame (d.length + 3) (responseFrame d) = .ok d := by
  rw [validateFrame_ok_iff]
  refine ⟨?_, ?_, ?_⟩
  · simp [lengthByteOk, responseFrame, responseBody]; omega
  · have h1 : (responseFrame d).take (d.length + 1) = responseBody d := by
      simp [responseFrame, responseBody]
    have h2 : (responseFrame d).getD (d.length + 1) 0#8 = lo8 (crc16 (responseBody d)) := by
      simp [responseFrame, responseBody]
    have h3 : (responseFrame d).getD (d.length + 2) 0#8 = hi8 (crc16 (responseBody d)) := by
      simp [responseFrame, responseBody]
    simp only [receivedChecksum, coveredBytes, show d.length + 3 - 2 = d.length + 1 from rfl,
      show d.length + 3 - 1 = d.length + 2 from rfl, h1, h2, h3, le16_lo8_hi8]
  · simp [framePayload, responseFrame, responseBody]

end Sys2Proof.Machine
end

