-- ==== Sys2Proof/Laws/Memory.lean ====
section
/-! SUPPORT. The buffers: reading after writing, the canonical form, and what a whole buffer holds. -/

namespace Sys2Proof.Machine

/-- A read of one byte after a write of one byte. -/
theorem memGet_memSet (m : Memory) (i j : Nat) (v : Byte) :
    memGet (memSet m i v) j = if i = j then some v else memGet m j := by
  induction m with
  | nil => simp [memSet, memGet]
  | cons p m ih =>
    obtain ⟨a, b⟩ := p
    by_cases h1 : i < a
    · simp [memSet, memGet, h1]
    · by_cases h2 : i = a
      · subst h2
        by_cases h3 : i = j <;> simp [memSet, memGet, h3]
      · simp only [memSet, h1, h2, if_false, memGet, ih]
        by_cases h3 : a = j
        · have : i ≠ j := fun h => h2 (h.trans h3.symm)
          simp [h3, this]
        · simp [h3]

/-- The indices after a write of one byte. -/
theorem mem_keys_memSet (m : Memory) (i k : Nat) (v : Byte) :
    k ∈ (memSet m i v).map Prod.fst ↔ k = i ∨ k ∈ m.map Prod.fst := by
  induction m with
  | nil => simp [memSet]
  | cons p m ih =>
    obtain ⟨a, b⟩ := p
    simp only [memSet]
    split
    · simp
    · split
      · rename_i h; subst h; simp
      · simp only [List.map_cons, List.mem_cons, ih]; tauto

/-- A write of one byte keeps the canonical form. -/
theorem memSet_pairwise (m : Memory) (i : Nat) (v : Byte) (h : (m.map Prod.fst).Pairwise (· < ·)) :
    ((memSet m i v).map Prod.fst).Pairwise (· < ·) := by
  induction m with
  | nil => simp [memSet]
  | cons p m ih =>
    obtain ⟨a, b⟩ := p
    simp only [List.map_cons, List.pairwise_cons] at h
    simp only [memSet]
    split
    · rename_i hi
      simp only [List.map_cons, List.pairwise_cons, List.mem_cons]
      refine ⟨?_, h.1, h.2⟩
      rintro k (rfl | hk)
      · exact hi
      · exact hi.trans (h.1 k hk)
    · split
      · rename_i hi; subst hi
        simpa using h
      · rename_i h1 h2
        simp only [List.map_cons, List.pairwise_cons]
        refine ⟨fun k hk => ?_, ih h.2⟩
        rcases (mem_keys_memSet m i k v).1 hk with rfl | hk
        · omega
        · exact h.1 k hk

/-- Every memory operation keeps the canonical form: one byte. -/
theorem memWf_memSet (m : Memory) (i : Nat) (v : Byte) (h : memWf m = true) : memWf (memSet m i v) = true := by
  simp only [memWf, decide_eq_true_eq] at *
  exact memSet_pairwise m i v h

/-- Every memory operation keeps the canonical form: a sequence. -/
theorem memWf_memWrite (s : List Byte) : ∀ (m : Memory) (i : Nat), memWf m = true → memWf (memWrite m i s) = true := by
  induction s with
  | nil => intro m i h; exact h
  | cons v s ih => intro m i h; exact ih _ _ (memWf_memSet m i v h)

/-- Every memory operation keeps the canonical form: a whole buffer. -/
theorem memWf_bufferOf (s : List Byte) : memWf (bufferOf s) = true := memWf_memWrite s [] 0 (by decide)

/-- A read of one byte after a write of a sequence. -/
theorem memGet_memWrite (s : List Byte) : ∀ (m : Memory) (i j : Nat),
    memGet (memWrite m i s) j = if i ≤ j ∧ j < i + s.length then s[j - i]? else memGet m j := by
  induction s with
  | nil => intro m i j; simp [memWrite]
  | cons v s ih =>
    intro m i j
    simp only [memWrite, ih, memGet_memSet, List.length_cons]
    by_cases h1 : i = j
    · subst h1
      have : ¬ (i + 1 ≤ i) := by omega
      simp [this]
    · by_cases h2 : i + 1 ≤ j ∧ j < i + 1 + s.length
      · have h3 : i ≤ j ∧ j < i + (s.length + 1) := by omega
        have h4 : j - i = (j - (i + 1)) + 1 := by omega
        simp only [h2, h3, and_self, if_true, h4, List.getElem?_cons_succ]
      · have h3 : ¬ (i ≤ j ∧ j < i + (s.length + 1)) := by omega
        simp only [h2, h3, h1, if_false]

/-- The byte at an index of a whole buffer. -/
@[simp] theorem memGet_bufferOf (s : List Byte) (j : Nat) : memGet (bufferOf s) j = s[j]? := by
  simp only [bufferOf, memGet_memWrite, memGet, Nat.zero_le, true_and, Nat.zero_add, Nat.sub_zero]
  split
  · rfl
  · rename_i h; simp only [Nat.not_lt] at h; simp [h]

/-- `MemRead` of a whole buffer is a slice. -/
theorem memRead_bufferOf (s : List Byte) : ∀ (n i : Nat), i + n ≤ s.length →
    memRead (bufferOf s) i n = some ((s.drop i).take n) := by
  intro n
  induction n with
  | zero => intro i _; simp [memRead]
  | succ n ih =>
    intro i h
    have hi : i < s.length := by omega
    rw [memRead, memGet_bufferOf, ih (i + 1) (by omega), List.getElem?_eq_getElem hi,
      List.drop_eq_getElem_cons hi, List.take_succ_cons]

/-- `MemRead` of a whole buffer from its start. -/
@[simp] theorem memRead_bufferOf_all (s : List Byte) : memRead (bufferOf s) 0 s.length = some s := by
  rw [memRead_bufferOf s s.length 0 (by omega)]; simp

/-- A write above every index goes to the end. -/
theorem memSet_above (m : Memory) (i : Nat) (v : Byte) (h : ∀ k ∈ m.map Prod.fst, k < i) :
    memSet m i v = m ++ [(i, v)] := by
  induction m with
  | nil => rfl
  | cons p m ih =>
    obtain ⟨a, b⟩ := p
    simp only [List.map_cons, List.mem_cons, forall_eq_or_imp] at h
    have h1 : ¬ i < a := by omega
    have h2 : ¬ i = a := by omega
    simp [memSet, h1, h2, ih h.2]

/-- The indices after a sequence written above every index. -/
theorem keys_memWrite_above (s : List Byte) : ∀ (m : Memory) (i : Nat), (∀ k ∈ m.map Prod.fst, k < i) →
    (memWrite m i s).map Prod.fst = m.map Prod.fst ++ List.range' i s.length := by
  induction s with
  | nil => intro m i _; simp [memWrite]
  | cons v s ih =>
    intro m i h
    rw [memWrite, memSet_above m i v h, ih]
    · simp [List.range'_succ]
    · intro k hk
      simp only [List.map_append, List.map_cons, List.map_nil, List.mem_append, List.mem_singleton] at hk
      rcases hk with hk | rfl
      · have := h k hk; omega
      · omega

/-- A whole buffer lists exactly the indices below its length. -/
theorem bufferFilled_bufferOf (s : List Byte) : Safety.bufferFilled (bufferOf s) s.length := by
  simp [Safety.bufferFilled, bufferOf, keys_memWrite_above s [] 0 (by simp), List.range_eq_range']

/-- A buffer that lists exactly the indices below its length is in canonical form. -/
theorem memWf_of_bufferFilled (m : Memory) (n : Nat) (h : Safety.bufferFilled m n) : memWf m = true := by
  unfold Safety.bufferFilled at h
  simp only [memWf, h, decide_eq_true_eq]
  exact List.pairwise_lt_range

/-- What is written to `TXBUF` is what is read back for the bus (R151, R152). -/
@[simp] theorem txBytes_loadTx (s : List Byte) (st : State) : txBytes (loadTx s st) = s := by
  simp [txBytes, loadTx]

end Sys2Proof.Machine
end

