-- ==== Sys2Proof/Laws/State.lean ====
section
/-! SUPPORT. What each state update changes and what it leaves, one field a lemma; true by `rfl` (for the
transport's draws by cases). -/

namespace Sys2Proof.Machine

section Updates

/-! ### The transport (R10, R293) -/

@[simp] theorem Transport.afterIssue_statuses (t : Transport) : t.afterIssue.statuses = t.statuses := rfl
@[simp] theorem Transport.afterIssue_answers (t : Transport) : t.afterIssue.answers = t.answers := rfl
@[simp] theorem Transport.afterIssue_drawn (t : Transport) : t.afterIssue.drawn = t.drawn := rfl
@[simp] theorem Transport.afterIssue_initDone (t : Transport) : t.afterIssue.initDone = t.initDone := rfl
@[simp] theorem Transport.afterIssue_sentAfterInit (t : Transport) : t.afterIssue.sentAfterInit = t.sentAfterInit := rfl
@[simp] theorem Transport.afterIssue_issuedAfterInit (t : Transport) : t.afterIssue.issuedAfterInit = t.initDone := rfl
@[simp] theorem Transport.afterStatus_answers (t : Transport) : t.afterStatus.answers = t.answers := by
  unfold Transport.afterStatus; split <;> rfl
@[simp] theorem Transport.afterStatus_initDone (t : Transport) : t.afterStatus.initDone = t.initDone := by
  unfold Transport.afterStatus; split <;> rfl
@[simp] theorem Transport.afterStatus_issuedAfterInit (t : Transport) : t.afterStatus.issuedAfterInit = t.issuedAfterInit := by
  unfold Transport.afterStatus; split <;> rfl
@[simp] theorem Transport.afterStatus_sentAfterInit (t : Transport) : t.afterStatus.sentAfterInit = t.issuedAfterInit := by
  unfold Transport.afterStatus; split <;> rfl
@[simp] theorem Transport.afterAnswer_statuses (t : Transport) : t.afterAnswer.statuses = t.statuses := by
  unfold Transport.afterAnswer; split <;> rfl
@[simp] theorem Transport.afterAnswer_initDone (t : Transport) : t.afterAnswer.initDone = t.initDone := by
  unfold Transport.afterAnswer; split <;> rfl
@[simp] theorem Transport.afterAnswer_issuedAfterInit (t : Transport) : t.afterAnswer.issuedAfterInit = t.issuedAfterInit := by
  unfold Transport.afterAnswer; split <;> rfl
@[simp] theorem Transport.afterAnswer_sentAfterInit (t : Transport) : t.afterAnswer.sentAfterInit = t.sentAfterInit := by
  unfold Transport.afterAnswer; split <;> rfl

/-! ### `loadTx` (R31) -/

@[simp] theorem loadTx_seqPhase (b : List Byte) (s : State) : (loadTx b s).seqPhase = s.seqPhase := rfl
@[simp] theorem loadTx_curOp (b : List Byte) (s : State) : (loadTx b s).curOp = s.curOp := rfl
@[simp] theorem loadTx_crcAcc (b : List Byte) (s : State) : (loadTx b s).crcAcc = s.crcAcc := rfl
@[simp] theorem loadTx_crcBit (b : List Byte) (s : State) : (loadTx b s).crcBit = s.crcBit := rfl
@[simp] theorem loadTx_crcOut (b : List Byte) (s : State) : (loadTx b s).crcOut = s.crcOut := rfl
@[simp] theorem loadTx_txbuf (b : List Byte) (s : State) : (loadTx b s).txbuf = bufferOf b := rfl
@[simp] theorem loadTx_txlen (b : List Byte) (s : State) : (loadTx b s).txlen = b.length := rfl
@[simp] theorem loadTx_rxbuf (b : List Byte) (s : State) : (loadTx b s).rxbuf = s.rxbuf := rfl
@[simp] theorem loadTx_rxlen (b : List Byte) (s : State) : (loadTx b s).rxlen = s.rxlen := rfl
@[simp] theorem loadTx_attempts (b : List Byte) (s : State) : (loadTx b s).attempts = s.attempts := rfl
@[simp] theorem loadTx_result (b : List Byte) (s : State) : (loadTx b s).result = s.result := rfl
@[simp] theorem loadTx_fault (b : List Byte) (s : State) : (loadTx b s).fault = s.fault := rfl
@[simp] theorem loadTx_faultReason (b : List Byte) (s : State) : (loadTx b s).faultReason = s.faultReason := rfl
@[simp] theorem loadTx_cfg (b : List Byte) (s : State) : (loadTx b s).cfg = s.cfg := rfl
@[simp] theorem loadTx_transport (b : List Byte) (s : State) : (loadTx b s).transport = s.transport := rfl
@[simp] theorem loadTx_device (b : List Byte) (s : State) : (loadTx b s).device = s.device := rfl
@[simp] theorem loadTx_elapsedUs (b : List Byte) (s : State) : (loadTx b s).elapsedUs = s.elapsedUs := rfl
@[simp] theorem loadTx_events (b : List Byte) (s : State) : (loadTx b s).events = s.events := rfl
@[simp] theorem loadTx_host (b : List Byte) (s : State) : (loadTx b s).host = s.host := rfl
@[simp] theorem loadTx_inbox (b : List Byte) (s : State) : (loadTx b s).inbox = s.inbox := rfl

/-! ### `loadRx` (R32) -/

@[simp] theorem loadRx_seqPhase (b : List Byte) (s : State) : (loadRx b s).seqPhase = s.seqPhase := rfl
@[simp] theorem loadRx_curOp (b : List Byte) (s : State) : (loadRx b s).curOp = s.curOp := rfl
@[simp] theorem loadRx_crcAcc (b : List Byte) (s : State) : (loadRx b s).crcAcc = s.crcAcc := rfl
@[simp] theorem loadRx_crcBit (b : List Byte) (s : State) : (loadRx b s).crcBit = s.crcBit := rfl
@[simp] theorem loadRx_crcOut (b : List Byte) (s : State) : (loadRx b s).crcOut = s.crcOut := rfl
@[simp] theorem loadRx_txbuf (b : List Byte) (s : State) : (loadRx b s).txbuf = s.txbuf := rfl
@[simp] theorem loadRx_txlen (b : List Byte) (s : State) : (loadRx b s).txlen = s.txlen := rfl
@[simp] theorem loadRx_rxbuf (b : List Byte) (s : State) : (loadRx b s).rxbuf = bufferOf b := rfl
@[simp] theorem loadRx_rxlen (b : List Byte) (s : State) : (loadRx b s).rxlen = b.length := rfl
@[simp] theorem loadRx_attempts (b : List Byte) (s : State) : (loadRx b s).attempts = s.attempts := rfl
@[simp] theorem loadRx_result (b : List Byte) (s : State) : (loadRx b s).result = s.result := rfl
@[simp] theorem loadRx_fault (b : List Byte) (s : State) : (loadRx b s).fault = s.fault := rfl
@[simp] theorem loadRx_faultReason (b : List Byte) (s : State) : (loadRx b s).faultReason = s.faultReason := rfl
@[simp] theorem loadRx_cfg (b : List Byte) (s : State) : (loadRx b s).cfg = s.cfg := rfl
@[simp] theorem loadRx_transport (b : List Byte) (s : State) : (loadRx b s).transport = s.transport := rfl
@[simp] theorem loadRx_device (b : List Byte) (s : State) : (loadRx b s).device = s.device := rfl
@[simp] theorem loadRx_elapsedUs (b : List Byte) (s : State) : (loadRx b s).elapsedUs = s.elapsedUs := rfl
@[simp] theorem loadRx_events (b : List Byte) (s : State) : (loadRx b s).events = s.events := rfl
@[simp] theorem loadRx_host (b : List Byte) (s : State) : (loadRx b s).host = s.host := rfl
@[simp] theorem loadRx_inbox (b : List Byte) (s : State) : (loadRx b s).inbox = s.inbox := rfl

/-! ### `runCrc` (R137) -/

@[simp] theorem runCrc_seqPhase (b : List Byte) (s : State) : (runCrc b s).seqPhase = s.seqPhase := rfl
@[simp] theorem runCrc_curOp (b : List Byte) (s : State) : (runCrc b s).curOp = s.curOp := rfl
@[simp] theorem runCrc_crcAcc (b : List Byte) (s : State) : (runCrc b s).crcAcc = crc16 b := rfl
@[simp] theorem runCrc_crcBit (b : List Byte) (s : State) : (runCrc b s).crcBit = (crcRun b).bit := rfl
@[simp] theorem runCrc_crcOut (b : List Byte) (s : State) : (runCrc b s).crcOut = s.crcOut := rfl
@[simp] theorem runCrc_txbuf (b : List Byte) (s : State) : (runCrc b s).txbuf = s.txbuf := rfl
@[simp] theorem runCrc_txlen (b : List Byte) (s : State) : (runCrc b s).txlen = s.txlen := rfl
@[simp] theorem runCrc_rxbuf (b : List Byte) (s : State) : (runCrc b s).rxbuf = s.rxbuf := rfl
@[simp] theorem runCrc_rxlen (b : List Byte) (s : State) : (runCrc b s).rxlen = s.rxlen := rfl
@[simp] theorem runCrc_attempts (b : List Byte) (s : State) : (runCrc b s).attempts = s.attempts := rfl
@[simp] theorem runCrc_result (b : List Byte) (s : State) : (runCrc b s).result = s.result := rfl
@[simp] theorem runCrc_fault (b : List Byte) (s : State) : (runCrc b s).fault = s.fault := rfl
@[simp] theorem runCrc_faultReason (b : List Byte) (s : State) : (runCrc b s).faultReason = s.faultReason := rfl
@[simp] theorem runCrc_cfg (b : List Byte) (s : State) : (runCrc b s).cfg = s.cfg := rfl
@[simp] theorem runCrc_transport (b : List Byte) (s : State) : (runCrc b s).transport = s.transport := rfl
@[simp] theorem runCrc_device (b : List Byte) (s : State) : (runCrc b s).device = s.device := rfl
@[simp] theorem runCrc_elapsedUs (b : List Byte) (s : State) : (runCrc b s).elapsedUs = s.elapsedUs := rfl
@[simp] theorem runCrc_events (b : List Byte) (s : State) : (runCrc b s).events = s.events := rfl
@[simp] theorem runCrc_host (b : List Byte) (s : State) : (runCrc b s).host = s.host := rfl
@[simp] theorem runCrc_inbox (b : List Byte) (s : State) : (runCrc b s).inbox = s.inbox := rfl

/-! ### `raiseFault` (R267) -/

@[simp] theorem raiseFault_seqPhase (r : FaultReason) (s : State) : (raiseFault r s).seqPhase = s.seqPhase := rfl
@[simp] theorem raiseFault_curOp (r : FaultReason) (s : State) : (raiseFault r s).curOp = s.curOp := rfl
@[simp] theorem raiseFault_crcAcc (r : FaultReason) (s : State) : (raiseFault r s).crcAcc = s.crcAcc := rfl
@[simp] theorem raiseFault_crcBit (r : FaultReason) (s : State) : (raiseFault r s).crcBit = s.crcBit := rfl
@[simp] theorem raiseFault_crcOut (r : FaultReason) (s : State) : (raiseFault r s).crcOut = s.crcOut := rfl
@[simp] theorem raiseFault_txbuf (r : FaultReason) (s : State) : (raiseFault r s).txbuf = s.txbuf := rfl
@[simp] theorem raiseFault_txlen (r : FaultReason) (s : State) : (raiseFault r s).txlen = s.txlen := rfl
@[simp] theorem raiseFault_rxbuf (r : FaultReason) (s : State) : (raiseFault r s).rxbuf = s.rxbuf := rfl
@[simp] theorem raiseFault_rxlen (r : FaultReason) (s : State) : (raiseFault r s).rxlen = s.rxlen := rfl
@[simp] theorem raiseFault_attempts (r : FaultReason) (s : State) : (raiseFault r s).attempts = s.attempts := rfl
@[simp] theorem raiseFault_result (r : FaultReason) (s : State) : (raiseFault r s).result = s.result := rfl
@[simp] theorem raiseFault_fault (r : FaultReason) (s : State) : (raiseFault r s).fault = true := rfl
@[simp] theorem raiseFault_faultReason (r : FaultReason) (s : State) : (raiseFault r s).faultReason = some r := rfl
@[simp] theorem raiseFault_cfg (r : FaultReason) (s : State) : (raiseFault r s).cfg = s.cfg := rfl
@[simp] theorem raiseFault_transport (r : FaultReason) (s : State) : (raiseFault r s).transport = s.transport := rfl
@[simp] theorem raiseFault_device (r : FaultReason) (s : State) : (raiseFault r s).device = s.device := rfl
@[simp] theorem raiseFault_elapsedUs (r : FaultReason) (s : State) : (raiseFault r s).elapsedUs = s.elapsedUs := rfl
@[simp] theorem raiseFault_events (r : FaultReason) (s : State) : (raiseFault r s).events = s.events := rfl
@[simp] theorem raiseFault_host (r : FaultReason) (s : State) : (raiseFault r s).host = s.host := rfl
@[simp] theorem raiseFault_inbox (r : FaultReason) (s : State) : (raiseFault r s).inbox = s.inbox := rfl

/-! ### `finish` (R26) -/

@[simp] theorem finish_seqPhase (c : ErrCode) (d : List Byte) (s : State) : (finish c d s).seqPhase = .ready := rfl
@[simp] theorem finish_curOp (c : ErrCode) (d : List Byte) (s : State) : (finish c d s).curOp = none := rfl
@[simp] theorem finish_crcAcc (c : ErrCode) (d : List Byte) (s : State) : (finish c d s).crcAcc = s.crcAcc := rfl
@[simp] theorem finish_crcBit (c : ErrCode) (d : List Byte) (s : State) : (finish c d s).crcBit = s.crcBit := rfl
@[simp] theorem finish_crcOut (c : ErrCode) (d : List Byte) (s : State) : (finish c d s).crcOut = s.crcOut := rfl
@[simp] theorem finish_txbuf (c : ErrCode) (d : List Byte) (s : State) : (finish c d s).txbuf = s.txbuf := rfl
@[simp] theorem finish_txlen (c : ErrCode) (d : List Byte) (s : State) : (finish c d s).txlen = s.txlen := rfl
@[simp] theorem finish_rxbuf (c : ErrCode) (d : List Byte) (s : State) : (finish c d s).rxbuf = s.rxbuf := rfl
@[simp] theorem finish_rxlen (c : ErrCode) (d : List Byte) (s : State) : (finish c d s).rxlen = s.rxlen := rfl
@[simp] theorem finish_attempts (c : ErrCode) (d : List Byte) (s : State) : (finish c d s).attempts = s.attempts := rfl
@[simp] theorem finish_result (c : ErrCode) (d : List Byte) (s : State) : (finish c d s).result = ⟨true, some c.toByte, some d⟩ := rfl
@[simp] theorem finish_fault (c : ErrCode) (d : List Byte) (s : State) : (finish c d s).fault = s.fault := rfl
@[simp] theorem finish_faultReason (c : ErrCode) (d : List Byte) (s : State) : (finish c d s).faultReason = s.faultReason := rfl
@[simp] theorem finish_cfg (c : ErrCode) (d : List Byte) (s : State) : (finish c d s).cfg = s.cfg := rfl
@[simp] theorem finish_transport (c : ErrCode) (d : List Byte) (s : State) : (finish c d s).transport = s.transport := rfl
@[simp] theorem finish_device (c : ErrCode) (d : List Byte) (s : State) : (finish c d s).device = s.device := rfl
@[simp] theorem finish_elapsedUs (c : ErrCode) (d : List Byte) (s : State) : (finish c d s).elapsedUs = s.elapsedUs := rfl
@[simp] theorem finish_events (c : ErrCode) (d : List Byte) (s : State) : (finish c d s).events = s.events := rfl
@[simp] theorem finish_host (c : ErrCode) (d : List Byte) (s : State) : (finish c d s).host = s.host := rfl
@[simp] theorem finish_inbox (c : ErrCode) (d : List Byte) (s : State) : (finish c d s).inbox = s.inbox := rfl

/-! ### `beginOp` (R26) -/

@[simp] theorem beginOp_seqPhase (o : Instr) (p : Phase) (s : State) : (beginOp o p s).seqPhase = p := rfl
@[simp] theorem beginOp_curOp (o : Instr) (p : Phase) (s : State) : (beginOp o p s).curOp = some o := rfl
@[simp] theorem beginOp_crcAcc (o : Instr) (p : Phase) (s : State) : (beginOp o p s).crcAcc = s.crcAcc := rfl
@[simp] theorem beginOp_crcBit (o : Instr) (p : Phase) (s : State) : (beginOp o p s).crcBit = s.crcBit := rfl
@[simp] theorem beginOp_crcOut (o : Instr) (p : Phase) (s : State) : (beginOp o p s).crcOut = s.crcOut := rfl
@[simp] theorem beginOp_txbuf (o : Instr) (p : Phase) (s : State) : (beginOp o p s).txbuf = s.txbuf := rfl
@[simp] theorem beginOp_txlen (o : Instr) (p : Phase) (s : State) : (beginOp o p s).txlen = s.txlen := rfl
@[simp] theorem beginOp_rxbuf (o : Instr) (p : Phase) (s : State) : (beginOp o p s).rxbuf = s.rxbuf := rfl
@[simp] theorem beginOp_rxlen (o : Instr) (p : Phase) (s : State) : (beginOp o p s).rxlen = s.rxlen := rfl
@[simp] theorem beginOp_attempts (o : Instr) (p : Phase) (s : State) : (beginOp o p s).attempts = s.attempts := rfl
@[simp] theorem beginOp_result (o : Instr) (p : Phase) (s : State) : (beginOp o p s).result = ⟨false, s.result.err, s.result.data⟩ := rfl
@[simp] theorem beginOp_fault (o : Instr) (p : Phase) (s : State) : (beginOp o p s).fault = s.fault := rfl
@[simp] theorem beginOp_faultReason (o : Instr) (p : Phase) (s : State) : (beginOp o p s).faultReason = s.faultReason := rfl
@[simp] theorem beginOp_cfg (o : Instr) (p : Phase) (s : State) : (beginOp o p s).cfg = s.cfg := rfl
@[simp] theorem beginOp_transport (o : Instr) (p : Phase) (s : State) : (beginOp o p s).transport = s.transport.afterIssue := rfl
@[simp] theorem beginOp_device (o : Instr) (p : Phase) (s : State) : (beginOp o p s).device = s.device := rfl
@[simp] theorem beginOp_elapsedUs (o : Instr) (p : Phase) (s : State) : (beginOp o p s).elapsedUs = s.elapsedUs := rfl
@[simp] theorem beginOp_events (o : Instr) (p : Phase) (s : State) : (beginOp o p s).events = s.events := rfl
@[simp] theorem beginOp_host (o : Instr) (p : Phase) (s : State) : (beginOp o p s).host = s.host := rfl
@[simp] theorem beginOp_inbox (o : Instr) (p : Phase) (s : State) : (beginOp o p s).inbox = s.inbox := rfl

/-! ### `enterRecv` (R155) -/

@[simp] theorem enterRecv_seqPhase (p : Phase) (s : State) : (enterRecv p s).seqPhase = p := rfl
@[simp] theorem enterRecv_curOp (p : Phase) (s : State) : (enterRecv p s).curOp = s.curOp := rfl
@[simp] theorem enterRecv_crcAcc (p : Phase) (s : State) : (enterRecv p s).crcAcc = s.crcAcc := rfl
@[simp] theorem enterRecv_crcBit (p : Phase) (s : State) : (enterRecv p s).crcBit = s.crcBit := rfl
@[simp] theorem enterRecv_crcOut (p : Phase) (s : State) : (enterRecv p s).crcOut = s.crcOut := rfl
@[simp] theorem enterRecv_txbuf (p : Phase) (s : State) : (enterRecv p s).txbuf = s.txbuf := rfl
@[simp] theorem enterRecv_txlen (p : Phase) (s : State) : (enterRecv p s).txlen = s.txlen := rfl
@[simp] theorem enterRecv_rxbuf (p : Phase) (s : State) : (enterRecv p s).rxbuf = s.rxbuf := rfl
@[simp] theorem enterRecv_rxlen (p : Phase) (s : State) : (enterRecv p s).rxlen = s.rxlen := rfl
@[simp] theorem enterRecv_attempts (p : Phase) (s : State) : (enterRecv p s).attempts = 0 := rfl
@[simp] theorem enterRecv_result (p : Phase) (s : State) : (enterRecv p s).result = s.result := rfl
@[simp] theorem enterRecv_fault (p : Phase) (s : State) : (enterRecv p s).fault = s.fault := rfl
@[simp] theorem enterRecv_faultReason (p : Phase) (s : State) : (enterRecv p s).faultReason = s.faultReason := rfl
@[simp] theorem enterRecv_cfg (p : Phase) (s : State) : (enterRecv p s).cfg = s.cfg := rfl
@[simp] theorem enterRecv_transport (p : Phase) (s : State) : (enterRecv p s).transport = s.transport := rfl
@[simp] theorem enterRecv_device (p : Phase) (s : State) : (enterRecv p s).device = s.device := rfl
@[simp] theorem enterRecv_elapsedUs (p : Phase) (s : State) : (enterRecv p s).elapsedUs = s.elapsedUs := rfl
@[simp] theorem enterRecv_events (p : Phase) (s : State) : (enterRecv p s).events = s.events := rfl
@[simp] theorem enterRecv_host (p : Phase) (s : State) : (enterRecv p s).host = s.host := rfl
@[simp] theorem enterRecv_inbox (p : Phase) (s : State) : (enterRecv p s).inbox = s.inbox := rfl

/-! ### `setPhase` (R23) -/

@[simp] theorem setPhase_seqPhase (p : Phase) (s : State) : (setPhase p s).seqPhase = p := rfl
@[simp] theorem setPhase_curOp (p : Phase) (s : State) : (setPhase p s).curOp = s.curOp := rfl
@[simp] theorem setPhase_crcAcc (p : Phase) (s : State) : (setPhase p s).crcAcc = s.crcAcc := rfl
@[simp] theorem setPhase_crcBit (p : Phase) (s : State) : (setPhase p s).crcBit = s.crcBit := rfl
@[simp] theorem setPhase_crcOut (p : Phase) (s : State) : (setPhase p s).crcOut = s.crcOut := rfl
@[simp] theorem setPhase_txbuf (p : Phase) (s : State) : (setPhase p s).txbuf = s.txbuf := rfl
@[simp] theorem setPhase_txlen (p : Phase) (s : State) : (setPhase p s).txlen = s.txlen := rfl
@[simp] theorem setPhase_rxbuf (p : Phase) (s : State) : (setPhase p s).rxbuf = s.rxbuf := rfl
@[simp] theorem setPhase_rxlen (p : Phase) (s : State) : (setPhase p s).rxlen = s.rxlen := rfl
@[simp] theorem setPhase_attempts (p : Phase) (s : State) : (setPhase p s).attempts = s.attempts := rfl
@[simp] theorem setPhase_result (p : Phase) (s : State) : (setPhase p s).result = s.result := rfl
@[simp] theorem setPhase_fault (p : Phase) (s : State) : (setPhase p s).fault = s.fault := rfl
@[simp] theorem setPhase_faultReason (p : Phase) (s : State) : (setPhase p s).faultReason = s.faultReason := rfl
@[simp] theorem setPhase_cfg (p : Phase) (s : State) : (setPhase p s).cfg = s.cfg := rfl
@[simp] theorem setPhase_transport (p : Phase) (s : State) : (setPhase p s).transport = s.transport := rfl
@[simp] theorem setPhase_device (p : Phase) (s : State) : (setPhase p s).device = s.device := rfl
@[simp] theorem setPhase_elapsedUs (p : Phase) (s : State) : (setPhase p s).elapsedUs = s.elapsedUs := rfl
@[simp] theorem setPhase_events (p : Phase) (s : State) : (setPhase p s).events = s.events := rfl
@[simp] theorem setPhase_host (p : Phase) (s : State) : (setPhase p s).host = s.host := rfl
@[simp] theorem setPhase_inbox (p : Phase) (s : State) : (setPhase p s).inbox = s.inbox := rfl

/-! ### `setCrcOut` (R30) -/

@[simp] theorem setCrcOut_seqPhase (v : U16) (s : State) : (setCrcOut v s).seqPhase = s.seqPhase := rfl
@[simp] theorem setCrcOut_curOp (v : U16) (s : State) : (setCrcOut v s).curOp = s.curOp := rfl
@[simp] theorem setCrcOut_crcAcc (v : U16) (s : State) : (setCrcOut v s).crcAcc = s.crcAcc := rfl
@[simp] theorem setCrcOut_crcBit (v : U16) (s : State) : (setCrcOut v s).crcBit = s.crcBit := rfl
@[simp] theorem setCrcOut_crcOut (v : U16) (s : State) : (setCrcOut v s).crcOut = some v := rfl
@[simp] theorem setCrcOut_txbuf (v : U16) (s : State) : (setCrcOut v s).txbuf = s.txbuf := rfl
@[simp] theorem setCrcOut_txlen (v : U16) (s : State) : (setCrcOut v s).txlen = s.txlen := rfl
@[simp] theorem setCrcOut_rxbuf (v : U16) (s : State) : (setCrcOut v s).rxbuf = s.rxbuf := rfl
@[simp] theorem setCrcOut_rxlen (v : U16) (s : State) : (setCrcOut v s).rxlen = s.rxlen := rfl
@[simp] theorem setCrcOut_attempts (v : U16) (s : State) : (setCrcOut v s).attempts = s.attempts := rfl
@[simp] theorem setCrcOut_result (v : U16) (s : State) : (setCrcOut v s).result = s.result := rfl
@[simp] theorem setCrcOut_fault (v : U16) (s : State) : (setCrcOut v s).fault = s.fault := rfl
@[simp] theorem setCrcOut_faultReason (v : U16) (s : State) : (setCrcOut v s).faultReason = s.faultReason := rfl
@[simp] theorem setCrcOut_cfg (v : U16) (s : State) : (setCrcOut v s).cfg = s.cfg := rfl
@[simp] theorem setCrcOut_transport (v : U16) (s : State) : (setCrcOut v s).transport = s.transport := rfl
@[simp] theorem setCrcOut_device (v : U16) (s : State) : (setCrcOut v s).device = s.device := rfl
@[simp] theorem setCrcOut_elapsedUs (v : U16) (s : State) : (setCrcOut v s).elapsedUs = s.elapsedUs := rfl
@[simp] theorem setCrcOut_events (v : U16) (s : State) : (setCrcOut v s).events = s.events := rfl
@[simp] theorem setCrcOut_host (v : U16) (s : State) : (setCrcOut v s).host = s.host := rfl
@[simp] theorem setCrcOut_inbox (v : U16) (s : State) : (setCrcOut v s).inbox = s.inbox := rfl

/-! ### `busWrite` (R10) -/

@[simp] theorem busWrite_seqPhase (a : Nat) (b : List Byte) (s : State) : (busWrite a b s).seqPhase = s.seqPhase := rfl
@[simp] theorem busWrite_curOp (a : Nat) (b : List Byte) (s : State) : (busWrite a b s).curOp = s.curOp := rfl
@[simp] theorem busWrite_crcAcc (a : Nat) (b : List Byte) (s : State) : (busWrite a b s).crcAcc = s.crcAcc := rfl
@[simp] theorem busWrite_crcBit (a : Nat) (b : List Byte) (s : State) : (busWrite a b s).crcBit = s.crcBit := rfl
@[simp] theorem busWrite_crcOut (a : Nat) (b : List Byte) (s : State) : (busWrite a b s).crcOut = s.crcOut := rfl
@[simp] theorem busWrite_txbuf (a : Nat) (b : List Byte) (s : State) : (busWrite a b s).txbuf = s.txbuf := rfl
@[simp] theorem busWrite_txlen (a : Nat) (b : List Byte) (s : State) : (busWrite a b s).txlen = s.txlen := rfl
@[simp] theorem busWrite_rxbuf (a : Nat) (b : List Byte) (s : State) : (busWrite a b s).rxbuf = s.rxbuf := rfl
@[simp] theorem busWrite_rxlen (a : Nat) (b : List Byte) (s : State) : (busWrite a b s).rxlen = s.rxlen := rfl
@[simp] theorem busWrite_attempts (a : Nat) (b : List Byte) (s : State) : (busWrite a b s).attempts = s.attempts := rfl
@[simp] theorem busWrite_result (a : Nat) (b : List Byte) (s : State) : (busWrite a b s).result = s.result := rfl
@[simp] theorem busWrite_fault (a : Nat) (b : List Byte) (s : State) : (busWrite a b s).fault = s.fault := rfl
@[simp] theorem busWrite_faultReason (a : Nat) (b : List Byte) (s : State) : (busWrite a b s).faultReason = s.faultReason := rfl
@[simp] theorem busWrite_cfg (a : Nat) (b : List Byte) (s : State) : (busWrite a b s).cfg = s.cfg := rfl
@[simp] theorem busWrite_transport (a : Nat) (b : List Byte) (s : State) : (busWrite a b s).transport = s.transport.afterStatus := rfl
@[simp] theorem busWrite_device (a : Nat) (b : List Byte) (s : State) : (busWrite a b s).device = s.device := rfl
@[simp] theorem busWrite_elapsedUs (a : Nat) (b : List Byte) (s : State) : (busWrite a b s).elapsedUs = s.elapsedUs := rfl
@[simp] theorem busWrite_events (a : Nat) (b : List Byte) (s : State) : (busWrite a b s).events = .busWrite a b (nextStatus s) :: s.events := rfl
@[simp] theorem busWrite_host (a : Nat) (b : List Byte) (s : State) : (busWrite a b s).host = s.host := rfl
@[simp] theorem busWrite_inbox (a : Nat) (b : List Byte) (s : State) : (busWrite a b s).inbox = s.inbox := rfl

/-! ### `recordRead` (R10) -/

@[simp] theorem recordRead_seqPhase (a k : Nat) (b : List Byte) (s : State) : (recordRead a k b s).seqPhase = s.seqPhase := rfl
@[simp] theorem recordRead_curOp (a k : Nat) (b : List Byte) (s : State) : (recordRead a k b s).curOp = s.curOp := rfl
@[simp] theorem recordRead_crcAcc (a k : Nat) (b : List Byte) (s : State) : (recordRead a k b s).crcAcc = s.crcAcc := rfl
@[simp] theorem recordRead_crcBit (a k : Nat) (b : List Byte) (s : State) : (recordRead a k b s).crcBit = s.crcBit := rfl
@[simp] theorem recordRead_crcOut (a k : Nat) (b : List Byte) (s : State) : (recordRead a k b s).crcOut = s.crcOut := rfl
@[simp] theorem recordRead_txbuf (a k : Nat) (b : List Byte) (s : State) : (recordRead a k b s).txbuf = s.txbuf := rfl
@[simp] theorem recordRead_txlen (a k : Nat) (b : List Byte) (s : State) : (recordRead a k b s).txlen = s.txlen := rfl
@[simp] theorem recordRead_rxbuf (a k : Nat) (b : List Byte) (s : State) : (recordRead a k b s).rxbuf = s.rxbuf := rfl
@[simp] theorem recordRead_rxlen (a k : Nat) (b : List Byte) (s : State) : (recordRead a k b s).rxlen = s.rxlen := rfl
@[simp] theorem recordRead_attempts (a k : Nat) (b : List Byte) (s : State) : (recordRead a k b s).attempts = s.attempts := rfl
@[simp] theorem recordRead_result (a k : Nat) (b : List Byte) (s : State) : (recordRead a k b s).result = s.result := rfl
@[simp] theorem recordRead_fault (a k : Nat) (b : List Byte) (s : State) : (recordRead a k b s).fault = s.fault := rfl
@[simp] theorem recordRead_faultReason (a k : Nat) (b : List Byte) (s : State) : (recordRead a k b s).faultReason = s.faultReason := rfl
@[simp] theorem recordRead_cfg (a k : Nat) (b : List Byte) (s : State) : (recordRead a k b s).cfg = s.cfg := rfl
@[simp] theorem recordRead_transport (a k : Nat) (b : List Byte) (s : State) : (recordRead a k b s).transport = s.transport := rfl
@[simp] theorem recordRead_device (a k : Nat) (b : List Byte) (s : State) : (recordRead a k b s).device = s.device := rfl
@[simp] theorem recordRead_elapsedUs (a k : Nat) (b : List Byte) (s : State) : (recordRead a k b s).elapsedUs = s.elapsedUs := rfl
@[simp] theorem recordRead_events (a k : Nat) (b : List Byte) (s : State) : (recordRead a k b s).events = .busRead a k b :: s.events := rfl
@[simp] theorem recordRead_host (a k : Nat) (b : List Byte) (s : State) : (recordRead a k b s).host = s.host := rfl
@[simp] theorem recordRead_inbox (a k : Nat) (b : List Byte) (s : State) : (recordRead a k b s).inbox = s.inbox := rfl

/-! ### `takeAnswer` (R10) -/

@[simp] theorem takeAnswer_seqPhase (s : State) : (takeAnswer s).seqPhase = s.seqPhase := rfl
@[simp] theorem takeAnswer_curOp (s : State) : (takeAnswer s).curOp = s.curOp := rfl
@[simp] theorem takeAnswer_crcAcc (s : State) : (takeAnswer s).crcAcc = s.crcAcc := rfl
@[simp] theorem takeAnswer_crcBit (s : State) : (takeAnswer s).crcBit = s.crcBit := rfl
@[simp] theorem takeAnswer_crcOut (s : State) : (takeAnswer s).crcOut = s.crcOut := rfl
@[simp] theorem takeAnswer_txbuf (s : State) : (takeAnswer s).txbuf = s.txbuf := rfl
@[simp] theorem takeAnswer_txlen (s : State) : (takeAnswer s).txlen = s.txlen := rfl
@[simp] theorem takeAnswer_rxbuf (s : State) : (takeAnswer s).rxbuf = s.rxbuf := rfl
@[simp] theorem takeAnswer_rxlen (s : State) : (takeAnswer s).rxlen = s.rxlen := rfl
@[simp] theorem takeAnswer_attempts (s : State) : (takeAnswer s).attempts = s.attempts := rfl
@[simp] theorem takeAnswer_result (s : State) : (takeAnswer s).result = s.result := rfl
@[simp] theorem takeAnswer_fault (s : State) : (takeAnswer s).fault = s.fault := rfl
@[simp] theorem takeAnswer_faultReason (s : State) : (takeAnswer s).faultReason = s.faultReason := rfl
@[simp] theorem takeAnswer_cfg (s : State) : (takeAnswer s).cfg = s.cfg := rfl
@[simp] theorem takeAnswer_transport (s : State) : (takeAnswer s).transport = s.transport.afterAnswer := rfl
@[simp] theorem takeAnswer_device (s : State) : (takeAnswer s).device = s.device := rfl
@[simp] theorem takeAnswer_elapsedUs (s : State) : (takeAnswer s).elapsedUs = s.elapsedUs := rfl
@[simp] theorem takeAnswer_events (s : State) : (takeAnswer s).events = s.events := rfl
@[simp] theorem takeAnswer_host (s : State) : (takeAnswer s).host = s.host := rfl
@[simp] theorem takeAnswer_inbox (s : State) : (takeAnswer s).inbox = s.inbox := rfl

/-! ### `delayMs` (R11) -/

@[simp] theorem delayMs_seqPhase (t : Nat) (s : State) : (delayMs t s).seqPhase = s.seqPhase := rfl
@[simp] theorem delayMs_curOp (t : Nat) (s : State) : (delayMs t s).curOp = s.curOp := rfl
@[simp] theorem delayMs_crcAcc (t : Nat) (s : State) : (delayMs t s).crcAcc = s.crcAcc := rfl
@[simp] theorem delayMs_crcBit (t : Nat) (s : State) : (delayMs t s).crcBit = s.crcBit := rfl
@[simp] theorem delayMs_crcOut (t : Nat) (s : State) : (delayMs t s).crcOut = s.crcOut := rfl
@[simp] theorem delayMs_txbuf (t : Nat) (s : State) : (delayMs t s).txbuf = s.txbuf := rfl
@[simp] theorem delayMs_txlen (t : Nat) (s : State) : (delayMs t s).txlen = s.txlen := rfl
@[simp] theorem delayMs_rxbuf (t : Nat) (s : State) : (delayMs t s).rxbuf = s.rxbuf := rfl
@[simp] theorem delayMs_rxlen (t : Nat) (s : State) : (delayMs t s).rxlen = s.rxlen := rfl
@[simp] theorem delayMs_attempts (t : Nat) (s : State) : (delayMs t s).attempts = s.attempts := rfl
@[simp] theorem delayMs_result (t : Nat) (s : State) : (delayMs t s).result = s.result := rfl
@[simp] theorem delayMs_fault (t : Nat) (s : State) : (delayMs t s).fault = s.fault := rfl
@[simp] theorem delayMs_faultReason (t : Nat) (s : State) : (delayMs t s).faultReason = s.faultReason := rfl
@[simp] theorem delayMs_cfg (t : Nat) (s : State) : (delayMs t s).cfg = s.cfg := rfl
@[simp] theorem delayMs_transport (t : Nat) (s : State) : (delayMs t s).transport = s.transport := rfl
@[simp] theorem delayMs_device (t : Nat) (s : State) : (delayMs t s).device = s.device := rfl
@[simp] theorem delayMs_elapsedUs (t : Nat) (s : State) : (delayMs t s).elapsedUs = s.elapsedUs + 1000 * t := rfl
@[simp] theorem delayMs_events (t : Nat) (s : State) : (delayMs t s).events = .delayMs t :: s.events := rfl
@[simp] theorem delayMs_host (t : Nat) (s : State) : (delayMs t s).host = s.host := rfl
@[simp] theorem delayMs_inbox (t : Nat) (s : State) : (delayMs t s).inbox = s.inbox := rfl

/-! ### `delayUs` (R11) -/

@[simp] theorem delayUs_seqPhase (t : Nat) (s : State) : (delayUs t s).seqPhase = s.seqPhase := rfl
@[simp] theorem delayUs_curOp (t : Nat) (s : State) : (delayUs t s).curOp = s.curOp := rfl
@[simp] theorem delayUs_crcAcc (t : Nat) (s : State) : (delayUs t s).crcAcc = s.crcAcc := rfl
@[simp] theorem delayUs_crcBit (t : Nat) (s : State) : (delayUs t s).crcBit = s.crcBit := rfl
@[simp] theorem delayUs_crcOut (t : Nat) (s : State) : (delayUs t s).crcOut = s.crcOut := rfl
@[simp] theorem delayUs_txbuf (t : Nat) (s : State) : (delayUs t s).txbuf = s.txbuf := rfl
@[simp] theorem delayUs_txlen (t : Nat) (s : State) : (delayUs t s).txlen = s.txlen := rfl
@[simp] theorem delayUs_rxbuf (t : Nat) (s : State) : (delayUs t s).rxbuf = s.rxbuf := rfl
@[simp] theorem delayUs_rxlen (t : Nat) (s : State) : (delayUs t s).rxlen = s.rxlen := rfl
@[simp] theorem delayUs_attempts (t : Nat) (s : State) : (delayUs t s).attempts = s.attempts := rfl
@[simp] theorem delayUs_result (t : Nat) (s : State) : (delayUs t s).result = s.result := rfl
@[simp] theorem delayUs_fault (t : Nat) (s : State) : (delayUs t s).fault = s.fault := rfl
@[simp] theorem delayUs_faultReason (t : Nat) (s : State) : (delayUs t s).faultReason = s.faultReason := rfl
@[simp] theorem delayUs_cfg (t : Nat) (s : State) : (delayUs t s).cfg = s.cfg := rfl
@[simp] theorem delayUs_transport (t : Nat) (s : State) : (delayUs t s).transport = s.transport := rfl
@[simp] theorem delayUs_device (t : Nat) (s : State) : (delayUs t s).device = s.device := rfl
@[simp] theorem delayUs_elapsedUs (t : Nat) (s : State) : (delayUs t s).elapsedUs = s.elapsedUs + t := rfl
@[simp] theorem delayUs_events (t : Nat) (s : State) : (delayUs t s).events = .delayUs t :: s.events := rfl
@[simp] theorem delayUs_host (t : Nat) (s : State) : (delayUs t s).host = s.host := rfl
@[simp] theorem delayUs_inbox (t : Nat) (s : State) : (delayUs t s).inbox = s.inbox := rfl

/-! ### `busInit` (R293) -/

@[simp] theorem busInit_seqPhase (s : State) : (busInit s).seqPhase = s.seqPhase := rfl
@[simp] theorem busInit_curOp (s : State) : (busInit s).curOp = s.curOp := rfl
@[simp] theorem busInit_crcAcc (s : State) : (busInit s).crcAcc = s.crcAcc := rfl
@[simp] theorem busInit_crcBit (s : State) : (busInit s).crcBit = s.crcBit := rfl
@[simp] theorem busInit_crcOut (s : State) : (busInit s).crcOut = s.crcOut := rfl
@[simp] theorem busInit_txbuf (s : State) : (busInit s).txbuf = s.txbuf := rfl
@[simp] theorem busInit_txlen (s : State) : (busInit s).txlen = s.txlen := rfl
@[simp] theorem busInit_rxbuf (s : State) : (busInit s).rxbuf = s.rxbuf := rfl
@[simp] theorem busInit_rxlen (s : State) : (busInit s).rxlen = s.rxlen := rfl
@[simp] theorem busInit_attempts (s : State) : (busInit s).attempts = s.attempts := rfl
@[simp] theorem busInit_result (s : State) : (busInit s).result = s.result := rfl
@[simp] theorem busInit_fault (s : State) : (busInit s).fault = s.fault := rfl
@[simp] theorem busInit_faultReason (s : State) : (busInit s).faultReason = s.faultReason := rfl
@[simp] theorem busInit_cfg (s : State) : (busInit s).cfg = s.cfg := rfl
@[simp] theorem busInit_transport (s : State) : (busInit s).transport = { s.transport with initDone := true } := rfl
@[simp] theorem busInit_device (s : State) : (busInit s).device = s.device := rfl
@[simp] theorem busInit_elapsedUs (s : State) : (busInit s).elapsedUs = s.elapsedUs := rfl
@[simp] theorem busInit_events (s : State) : (busInit s).events = .busInit s.cfg.params.busClock :: s.events := rfl
@[simp] theorem busInit_host (s : State) : (busInit s).host = s.host := rfl
@[simp] theorem busInit_inbox (s : State) : (busInit s).inbox = s.inbox := rfl

/-! ### `countAttempt` (R155) -/

@[simp] theorem countAttempt_seqPhase (k : Nat) (b : List Byte) (s : State) : (countAttempt k b s).seqPhase = s.seqPhase := rfl
@[simp] theorem countAttempt_curOp (k : Nat) (b : List Byte) (s : State) : (countAttempt k b s).curOp = s.curOp := rfl
@[simp] theorem countAttempt_crcAcc (k : Nat) (b : List Byte) (s : State) : (countAttempt k b s).crcAcc = s.crcAcc := rfl
@[simp] theorem countAttempt_crcBit (k : Nat) (b : List Byte) (s : State) : (countAttempt k b s).crcBit = s.crcBit := rfl
@[simp] theorem countAttempt_crcOut (k : Nat) (b : List Byte) (s : State) : (countAttempt k b s).crcOut = s.crcOut := rfl
@[simp] theorem countAttempt_txbuf (k : Nat) (b : List Byte) (s : State) : (countAttempt k b s).txbuf = s.txbuf := rfl
@[simp] theorem countAttempt_txlen (k : Nat) (b : List Byte) (s : State) : (countAttempt k b s).txlen = s.txlen := rfl
@[simp] theorem countAttempt_rxbuf (k : Nat) (b : List Byte) (s : State) : (countAttempt k b s).rxbuf = s.rxbuf := rfl
@[simp] theorem countAttempt_rxlen (k : Nat) (b : List Byte) (s : State) : (countAttempt k b s).rxlen = s.rxlen := rfl
@[simp] theorem countAttempt_attempts (k : Nat) (b : List Byte) (s : State) : (countAttempt k b s).attempts = s.attempts + 1 := rfl
@[simp] theorem countAttempt_result (k : Nat) (b : List Byte) (s : State) : (countAttempt k b s).result = s.result := rfl
@[simp] theorem countAttempt_fault (k : Nat) (b : List Byte) (s : State) : (countAttempt k b s).fault = s.fault := rfl
@[simp] theorem countAttempt_faultReason (k : Nat) (b : List Byte) (s : State) : (countAttempt k b s).faultReason = s.faultReason := rfl
@[simp] theorem countAttempt_cfg (k : Nat) (b : List Byte) (s : State) : (countAttempt k b s).cfg = s.cfg := rfl
@[simp] theorem countAttempt_transport (k : Nat) (b : List Byte) (s : State) : (countAttempt k b s).transport = s.transport := rfl
@[simp] theorem countAttempt_device (k : Nat) (b : List Byte) (s : State) : (countAttempt k b s).device = s.device := rfl
@[simp] theorem countAttempt_elapsedUs (k : Nat) (b : List Byte) (s : State) : (countAttempt k b s).elapsedUs = s.elapsedUs := rfl
@[simp] theorem countAttempt_events (k : Nat) (b : List Byte) (s : State) : (countAttempt k b s).events = .busRead s.cfg.params.devAddr k b :: s.events := rfl
@[simp] theorem countAttempt_host (k : Nat) (b : List Byte) (s : State) : (countAttempt k b s).host = s.host := rfl
@[simp] theorem countAttempt_inbox (k : Nat) (b : List Byte) (s : State) : (countAttempt k b s).inbox = s.inbox := rfl

/-! ### `popInbox` (log entry 13) -/

@[simp] theorem popInbox_seqPhase (s : State) : (popInbox s).seqPhase = s.seqPhase := rfl
@[simp] theorem popInbox_curOp (s : State) : (popInbox s).curOp = s.curOp := rfl
@[simp] theorem popInbox_crcAcc (s : State) : (popInbox s).crcAcc = s.crcAcc := rfl
@[simp] theorem popInbox_crcBit (s : State) : (popInbox s).crcBit = s.crcBit := rfl
@[simp] theorem popInbox_crcOut (s : State) : (popInbox s).crcOut = s.crcOut := rfl
@[simp] theorem popInbox_txbuf (s : State) : (popInbox s).txbuf = s.txbuf := rfl
@[simp] theorem popInbox_txlen (s : State) : (popInbox s).txlen = s.txlen := rfl
@[simp] theorem popInbox_rxbuf (s : State) : (popInbox s).rxbuf = s.rxbuf := rfl
@[simp] theorem popInbox_rxlen (s : State) : (popInbox s).rxlen = s.rxlen := rfl
@[simp] theorem popInbox_attempts (s : State) : (popInbox s).attempts = s.attempts := rfl
@[simp] theorem popInbox_result (s : State) : (popInbox s).result = s.result := rfl
@[simp] theorem popInbox_fault (s : State) : (popInbox s).fault = s.fault := rfl
@[simp] theorem popInbox_faultReason (s : State) : (popInbox s).faultReason = s.faultReason := rfl
@[simp] theorem popInbox_cfg (s : State) : (popInbox s).cfg = s.cfg := rfl
@[simp] theorem popInbox_transport (s : State) : (popInbox s).transport = s.transport := rfl
@[simp] theorem popInbox_device (s : State) : (popInbox s).device = s.device := rfl
@[simp] theorem popInbox_elapsedUs (s : State) : (popInbox s).elapsedUs = s.elapsedUs := rfl
@[simp] theorem popInbox_events (s : State) : (popInbox s).events = s.events := rfl
@[simp] theorem popInbox_host (s : State) : (popInbox s).host = s.host := rfl
@[simp] theorem popInbox_inbox (s : State) : (popInbox s).inbox = s.inbox.tail := rfl

/-! ### `collectResult` (R121) -/

@[simp] theorem collectResult_seqPhase (l : Line) (s : State) : (collectResult l s).seqPhase = s.seqPhase := rfl
@[simp] theorem collectResult_curOp (l : Line) (s : State) : (collectResult l s).curOp = s.curOp := rfl
@[simp] theorem collectResult_crcAcc (l : Line) (s : State) : (collectResult l s).crcAcc = s.crcAcc := rfl
@[simp] theorem collectResult_crcBit (l : Line) (s : State) : (collectResult l s).crcBit = s.crcBit := rfl
@[simp] theorem collectResult_crcOut (l : Line) (s : State) : (collectResult l s).crcOut = s.crcOut := rfl
@[simp] theorem collectResult_txbuf (l : Line) (s : State) : (collectResult l s).txbuf = s.txbuf := rfl
@[simp] theorem collectResult_txlen (l : Line) (s : State) : (collectResult l s).txlen = s.txlen := rfl
@[simp] theorem collectResult_rxbuf (l : Line) (s : State) : (collectResult l s).rxbuf = s.rxbuf := rfl
@[simp] theorem collectResult_rxlen (l : Line) (s : State) : (collectResult l s).rxlen = s.rxlen := rfl
@[simp] theorem collectResult_attempts (l : Line) (s : State) : (collectResult l s).attempts = s.attempts := rfl
@[simp] theorem collectResult_result (l : Line) (s : State) : (collectResult l s).result = s.result := rfl
@[simp] theorem collectResult_fault (l : Line) (s : State) : (collectResult l s).fault = s.fault := rfl
@[simp] theorem collectResult_faultReason (l : Line) (s : State) : (collectResult l s).faultReason = s.faultReason := rfl
@[simp] theorem collectResult_cfg (l : Line) (s : State) : (collectResult l s).cfg = s.cfg := rfl
@[simp] theorem collectResult_transport (l : Line) (s : State) : (collectResult l s).transport = s.transport := rfl
@[simp] theorem collectResult_device (l : Line) (s : State) : (collectResult l s).device = s.device := rfl
@[simp] theorem collectResult_elapsedUs (l : Line) (s : State) : (collectResult l s).elapsedUs = s.elapsedUs := rfl
@[simp] theorem collectResult_events (l : Line) (s : State) : (collectResult l s).events = s.events := rfl
@[simp] theorem collectResult_host (l : Line) (s : State) : (collectResult l s).host = ⟨s.host.program, none, if l.bestEffort then none else failureOf s.result, s.host.results ++ [lineResult l s], s.host.reads⟩ := rfl
@[simp] theorem collectResult_inbox (l : Line) (s : State) : (collectResult l s).inbox = s.inbox := rfl

/-! ### `startProgram` (R121) -/

@[simp] theorem startProgram_seqPhase (l : List Line) (s : State) : (startProgram l s).seqPhase = s.seqPhase := rfl
@[simp] theorem startProgram_curOp (l : List Line) (s : State) : (startProgram l s).curOp = s.curOp := rfl
@[simp] theorem startProgram_crcAcc (l : List Line) (s : State) : (startProgram l s).crcAcc = s.crcAcc := rfl
@[simp] theorem startProgram_crcBit (l : List Line) (s : State) : (startProgram l s).crcBit = s.crcBit := rfl
@[simp] theorem startProgram_crcOut (l : List Line) (s : State) : (startProgram l s).crcOut = s.crcOut := rfl
@[simp] theorem startProgram_txbuf (l : List Line) (s : State) : (startProgram l s).txbuf = s.txbuf := rfl
@[simp] theorem startProgram_txlen (l : List Line) (s : State) : (startProgram l s).txlen = s.txlen := rfl
@[simp] theorem startProgram_rxbuf (l : List Line) (s : State) : (startProgram l s).rxbuf = s.rxbuf := rfl
@[simp] theorem startProgram_rxlen (l : List Line) (s : State) : (startProgram l s).rxlen = s.rxlen := rfl
@[simp] theorem startProgram_attempts (l : List Line) (s : State) : (startProgram l s).attempts = s.attempts := rfl
@[simp] theorem startProgram_result (l : List Line) (s : State) : (startProgram l s).result = s.result := rfl
@[simp] theorem startProgram_fault (l : List Line) (s : State) : (startProgram l s).fault = s.fault := rfl
@[simp] theorem startProgram_faultReason (l : List Line) (s : State) : (startProgram l s).faultReason = s.faultReason := rfl
@[simp] theorem startProgram_cfg (l : List Line) (s : State) : (startProgram l s).cfg = s.cfg := rfl
@[simp] theorem startProgram_transport (l : List Line) (s : State) : (startProgram l s).transport = s.transport := rfl
@[simp] theorem startProgram_device (l : List Line) (s : State) : (startProgram l s).device = s.device := rfl
@[simp] theorem startProgram_elapsedUs (l : List Line) (s : State) : (startProgram l s).elapsedUs = s.elapsedUs := rfl
@[simp] theorem startProgram_events (l : List Line) (s : State) : (startProgram l s).events = s.events := rfl
@[simp] theorem startProgram_host (l : List Line) (s : State) : (startProgram l s).host = ⟨l, none, none, [], s.host.reads⟩ := rfl
@[simp] theorem startProgram_inbox (l : List Line) (s : State) : (startProgram l s).inbox = s.inbox := rfl

/-! ### `takeLine` (R121) -/

@[simp] theorem takeLine_seqPhase (l : Line) (r : List Line) (s : State) : (takeLine l r s).seqPhase = s.seqPhase := rfl
@[simp] theorem takeLine_curOp (l : Line) (r : List Line) (s : State) : (takeLine l r s).curOp = s.curOp := rfl
@[simp] theorem takeLine_crcAcc (l : Line) (r : List Line) (s : State) : (takeLine l r s).crcAcc = s.crcAcc := rfl
@[simp] theorem takeLine_crcBit (l : Line) (r : List Line) (s : State) : (takeLine l r s).crcBit = s.crcBit := rfl
@[simp] theorem takeLine_crcOut (l : Line) (r : List Line) (s : State) : (takeLine l r s).crcOut = s.crcOut := rfl
@[simp] theorem takeLine_txbuf (l : Line) (r : List Line) (s : State) : (takeLine l r s).txbuf = s.txbuf := rfl
@[simp] theorem takeLine_txlen (l : Line) (r : List Line) (s : State) : (takeLine l r s).txlen = s.txlen := rfl
@[simp] theorem takeLine_rxbuf (l : Line) (r : List Line) (s : State) : (takeLine l r s).rxbuf = s.rxbuf := rfl
@[simp] theorem takeLine_rxlen (l : Line) (r : List Line) (s : State) : (takeLine l r s).rxlen = s.rxlen := rfl
@[simp] theorem takeLine_attempts (l : Line) (r : List Line) (s : State) : (takeLine l r s).attempts = s.attempts := rfl
@[simp] theorem takeLine_result (l : Line) (r : List Line) (s : State) : (takeLine l r s).result = s.result := rfl
@[simp] theorem takeLine_fault (l : Line) (r : List Line) (s : State) : (takeLine l r s).fault = s.fault := rfl
@[simp] theorem takeLine_faultReason (l : Line) (r : List Line) (s : State) : (takeLine l r s).faultReason = s.faultReason := rfl
@[simp] theorem takeLine_cfg (l : Line) (r : List Line) (s : State) : (takeLine l r s).cfg = s.cfg := rfl
@[simp] theorem takeLine_transport (l : Line) (r : List Line) (s : State) : (takeLine l r s).transport = s.transport := rfl
@[simp] theorem takeLine_device (l : Line) (r : List Line) (s : State) : (takeLine l r s).device = s.device := rfl
@[simp] theorem takeLine_elapsedUs (l : Line) (r : List Line) (s : State) : (takeLine l r s).elapsedUs = s.elapsedUs := rfl
@[simp] theorem takeLine_events (l : Line) (r : List Line) (s : State) : (takeLine l r s).events = s.events := rfl
@[simp] theorem takeLine_host (l : Line) (r : List Line) (s : State) : (takeLine l r s).host = ⟨r, some l, s.host.stopped, s.host.results, s.host.reads⟩ := rfl
@[simp] theorem takeLine_inbox (l : Line) (r : List Line) (s : State) : (takeLine l r s).inbox = s.inbox := rfl

/-! ### `deliverRead` (R27) -/

@[simp] theorem deliverRead_seqPhase (r : HostReg) (v : RegValue) (s : State) : (deliverRead r v s).seqPhase = s.seqPhase := rfl
@[simp] theorem deliverRead_curOp (r : HostReg) (v : RegValue) (s : State) : (deliverRead r v s).curOp = s.curOp := rfl
@[simp] theorem deliverRead_crcAcc (r : HostReg) (v : RegValue) (s : State) : (deliverRead r v s).crcAcc = s.crcAcc := rfl
@[simp] theorem deliverRead_crcBit (r : HostReg) (v : RegValue) (s : State) : (deliverRead r v s).crcBit = s.crcBit := rfl
@[simp] theorem deliverRead_crcOut (r : HostReg) (v : RegValue) (s : State) : (deliverRead r v s).crcOut = s.crcOut := rfl
@[simp] theorem deliverRead_txbuf (r : HostReg) (v : RegValue) (s : State) : (deliverRead r v s).txbuf = s.txbuf := rfl
@[simp] theorem deliverRead_txlen (r : HostReg) (v : RegValue) (s : State) : (deliverRead r v s).txlen = s.txlen := rfl
@[simp] theorem deliverRead_rxbuf (r : HostReg) (v : RegValue) (s : State) : (deliverRead r v s).rxbuf = s.rxbuf := rfl
@[simp] theorem deliverRead_rxlen (r : HostReg) (v : RegValue) (s : State) : (deliverRead r v s).rxlen = s.rxlen := rfl
@[simp] theorem deliverRead_attempts (r : HostReg) (v : RegValue) (s : State) : (deliverRead r v s).attempts = s.attempts := rfl
@[simp] theorem deliverRead_result (r : HostReg) (v : RegValue) (s : State) : (deliverRead r v s).result = s.result := rfl
@[simp] theorem deliverRead_fault (r : HostReg) (v : RegValue) (s : State) : (deliverRead r v s).fault = s.fault := rfl
@[simp] theorem deliverRead_faultReason (r : HostReg) (v : RegValue) (s : State) : (deliverRead r v s).faultReason = s.faultReason := rfl
@[simp] theorem deliverRead_cfg (r : HostReg) (v : RegValue) (s : State) : (deliverRead r v s).cfg = s.cfg := rfl
@[simp] theorem deliverRead_transport (r : HostReg) (v : RegValue) (s : State) : (deliverRead r v s).transport = s.transport := rfl
@[simp] theorem deliverRead_device (r : HostReg) (v : RegValue) (s : State) : (deliverRead r v s).device = s.device := rfl
@[simp] theorem deliverRead_elapsedUs (r : HostReg) (v : RegValue) (s : State) : (deliverRead r v s).elapsedUs = s.elapsedUs := rfl
@[simp] theorem deliverRead_events (r : HostReg) (v : RegValue) (s : State) : (deliverRead r v s).events = s.events := rfl
@[simp] theorem deliverRead_host (r : HostReg) (v : RegValue) (s : State) : (deliverRead r v s).host = ⟨s.host.program, s.host.inFlight, s.host.stopped, s.host.results, s.host.reads ++ [(r, v)]⟩ := rfl
@[simp] theorem deliverRead_inbox (r : HostReg) (v : RegValue) (s : State) : (deliverRead r v s).inbox = s.inbox := rfl

/-! ### `devicePowerOn` (R292) -/

@[simp] theorem devicePowerOn_seqPhase (s : State) : (devicePowerOn s).seqPhase = s.seqPhase := rfl
@[simp] theorem devicePowerOn_curOp (s : State) : (devicePowerOn s).curOp = s.curOp := rfl
@[simp] theorem devicePowerOn_crcAcc (s : State) : (devicePowerOn s).crcAcc = s.crcAcc := rfl
@[simp] theorem devicePowerOn_crcBit (s : State) : (devicePowerOn s).crcBit = s.crcBit := rfl
@[simp] theorem devicePowerOn_crcOut (s : State) : (devicePowerOn s).crcOut = s.crcOut := rfl
@[simp] theorem devicePowerOn_txbuf (s : State) : (devicePowerOn s).txbuf = s.txbuf := rfl
@[simp] theorem devicePowerOn_txlen (s : State) : (devicePowerOn s).txlen = s.txlen := rfl
@[simp] theorem devicePowerOn_rxbuf (s : State) : (devicePowerOn s).rxbuf = s.rxbuf := rfl
@[simp] theorem devicePowerOn_rxlen (s : State) : (devicePowerOn s).rxlen = s.rxlen := rfl
@[simp] theorem devicePowerOn_attempts (s : State) : (devicePowerOn s).attempts = s.attempts := rfl
@[simp] theorem devicePowerOn_result (s : State) : (devicePowerOn s).result = s.result := rfl
@[simp] theorem devicePowerOn_fault (s : State) : (devicePowerOn s).fault = s.fault := rfl
@[simp] theorem devicePowerOn_faultReason (s : State) : (devicePowerOn s).faultReason = s.faultReason := rfl
@[simp] theorem devicePowerOn_cfg (s : State) : (devicePowerOn s).cfg = s.cfg := rfl
@[simp] theorem devicePowerOn_transport (s : State) : (devicePowerOn s).transport = s.transport := rfl
@[simp] theorem devicePowerOn_device (s : State) : (devicePowerOn s).device = Device.poweredOn := rfl
@[simp] theorem devicePowerOn_elapsedUs (s : State) : (devicePowerOn s).elapsedUs = s.elapsedUs := rfl
@[simp] theorem devicePowerOn_events (s : State) : (devicePowerOn s).events = s.events := rfl
@[simp] theorem devicePowerOn_host (s : State) : (devicePowerOn s).host = s.host := rfl
@[simp] theorem devicePowerOn_inbox (s : State) : (devicePowerOn s).inbox = s.inbox := rfl

/-! ### `deviceTimeout` (R182) -/

@[simp] theorem deviceTimeout_seqPhase (s : State) : (deviceTimeout s).seqPhase = s.seqPhase := rfl
@[simp] theorem deviceTimeout_curOp (s : State) : (deviceTimeout s).curOp = s.curOp := rfl
@[simp] theorem deviceTimeout_crcAcc (s : State) : (deviceTimeout s).crcAcc = s.crcAcc := rfl
@[simp] theorem deviceTimeout_crcBit (s : State) : (deviceTimeout s).crcBit = s.crcBit := rfl
@[simp] theorem deviceTimeout_crcOut (s : State) : (deviceTimeout s).crcOut = s.crcOut := rfl
@[simp] theorem deviceTimeout_txbuf (s : State) : (deviceTimeout s).txbuf = s.txbuf := rfl
@[simp] theorem deviceTimeout_txlen (s : State) : (deviceTimeout s).txlen = s.txlen := rfl
@[simp] theorem deviceTimeout_rxbuf (s : State) : (deviceTimeout s).rxbuf = s.rxbuf := rfl
@[simp] theorem deviceTimeout_rxlen (s : State) : (deviceTimeout s).rxlen = s.rxlen := rfl
@[simp] theorem deviceTimeout_attempts (s : State) : (deviceTimeout s).attempts = s.attempts := rfl
@[simp] theorem deviceTimeout_result (s : State) : (deviceTimeout s).result = s.result := rfl
@[simp] theorem deviceTimeout_fault (s : State) : (deviceTimeout s).fault = s.fault := rfl
@[simp] theorem deviceTimeout_faultReason (s : State) : (deviceTimeout s).faultReason = s.faultReason := rfl
@[simp] theorem deviceTimeout_cfg (s : State) : (deviceTimeout s).cfg = s.cfg := rfl
@[simp] theorem deviceTimeout_transport (s : State) : (deviceTimeout s).transport = s.transport := rfl
@[simp] theorem deviceTimeout_device (s : State) : (deviceTimeout s).device = s.device.onTimeout := rfl
@[simp] theorem deviceTimeout_elapsedUs (s : State) : (deviceTimeout s).elapsedUs = s.elapsedUs := rfl
@[simp] theorem deviceTimeout_events (s : State) : (deviceTimeout s).events = s.events := rfl
@[simp] theorem deviceTimeout_host (s : State) : (deviceTimeout s).host = s.host := rfl
@[simp] theorem deviceTimeout_inbox (s : State) : (deviceTimeout s).inbox = s.inbox := rfl

/-! ### `transmitWake` (R99) -/

@[simp] theorem transmitWake_seqPhase (s : State) : (transmitWake s).seqPhase = s.seqPhase := rfl
@[simp] theorem transmitWake_curOp (s : State) : (transmitWake s).curOp = s.curOp := rfl
@[simp] theorem transmitWake_crcAcc (s : State) : (transmitWake s).crcAcc = s.crcAcc := rfl
@[simp] theorem transmitWake_crcBit (s : State) : (transmitWake s).crcBit = s.crcBit := rfl
@[simp] theorem transmitWake_crcOut (s : State) : (transmitWake s).crcOut = s.crcOut := rfl
@[simp] theorem transmitWake_txbuf (s : State) : (transmitWake s).txbuf = s.txbuf := rfl
@[simp] theorem transmitWake_txlen (s : State) : (transmitWake s).txlen = s.txlen := rfl
@[simp] theorem transmitWake_rxbuf (s : State) : (transmitWake s).rxbuf = s.rxbuf := rfl
@[simp] theorem transmitWake_rxlen (s : State) : (transmitWake s).rxlen = s.rxlen := rfl
@[simp] theorem transmitWake_attempts (s : State) : (transmitWake s).attempts = s.attempts := rfl
@[simp] theorem transmitWake_result (s : State) : (transmitWake s).result = s.result := rfl
@[simp] theorem transmitWake_fault (s : State) : (transmitWake s).fault = s.fault := rfl
@[simp] theorem transmitWake_faultReason (s : State) : (transmitWake s).faultReason = s.faultReason := rfl
@[simp] theorem transmitWake_cfg (s : State) : (transmitWake s).cfg = s.cfg := rfl
@[simp] theorem transmitWake_transport (s : State) : (transmitWake s).transport = s.transport.afterStatus := rfl
@[simp] theorem transmitWake_device (s : State) : (transmitWake s).device = s.device.onWake := rfl
@[simp] theorem transmitWake_elapsedUs (s : State) : (transmitWake s).elapsedUs = s.elapsedUs := rfl
@[simp] theorem transmitWake_events (s : State) : (transmitWake s).events = .busWrite s.cfg.params.generalCallAddr [] (nextStatus s) :: s.events := rfl
@[simp] theorem transmitWake_host (s : State) : (transmitWake s).host = s.host := rfl
@[simp] theorem transmitWake_inbox (s : State) : (transmitWake s).inbox = s.inbox := rfl

end Updates

end Sys2Proof.Machine
end

