-- ==== Sys2Proof/Laws/Ops.lean ====
section
/-! SUPPORT. What each shared operation can do, said once: the transport's draws, the transmissions, one attempt of a
read, the steps of the Framer, the first step of a host operation, and one step of the machine. -/

namespace Sys2Proof.Machine

/-! ## The transport's draws -/

/-- The next status of a script that is not empty. -/
theorem nextStatus_of_cons (s : State) (b : Byte) (l : List Byte) (h : s.transport.statuses = b :: l) :
    nextStatus s = b := by simp [nextStatus, h]

/-- The next answer of a script that is not empty. -/
theorem nextAnswer_of_cons (s : State) (b : List Byte) (l : List (List Byte)) (h : s.transport.answers = b :: l) :
    nextAnswer s = b := by simp [nextAnswer, h]

/-- Taking a status leaves the answers. -/
@[simp] theorem afterStatus_answers (t : Transport) : t.afterStatus.answers = t.answers := by
  unfold Transport.afterStatus; split <;> rfl

/-- Taking a status takes the first of the script. -/
@[simp] theorem afterStatus_statuses (t : Transport) : t.afterStatus.statuses = t.statuses.tail := by
  unfold Transport.afterStatus; split <;> simp_all

/-- Taking an answer leaves the statuses. -/
@[simp] theorem afterAnswer_statuses (t : Transport) : t.afterAnswer.statuses = t.statuses := by
  unfold Transport.afterAnswer; split <;> rfl

/-- Taking an answer takes the first of the script. -/
@[simp] theorem afterAnswer_answers (t : Transport) : t.afterAnswer.answers = t.answers.tail := by
  unfold Transport.afterAnswer; split <;> simp_all

/-- A state update that keeps the transport keeps its next status. -/
theorem nextStatus_congr (s t : State) (h : t.transport = s.transport) : nextStatus t = nextStatus s := by
  simp [nextStatus, h]

/-- A state update that keeps the transport keeps its next answer. -/
theorem nextAnswer_congr (s t : State) (h : t.transport = s.transport) : nextAnswer t = nextAnswer s := by
  simp [nextAnswer, h]

/-! ## The transmissions -/

/-- What W-IDLE does, whole (R97, R187). -/
theorem transmitIdle_eq (s : State) :
    transmitIdle s = { s with
      txbuf := bufferOf [s.params.wordIdle], txlen := 1
      transport := s.transport.afterStatus
      events := .busWrite s.params.devAddr [s.params.wordIdle] (nextStatus s) :: s.events
      device := s.device.onIdle } := by
  simp only [transmitIdle, txBytes_loadTx]; rfl

/-- What W-SLEEP does, whole (R98, R188). -/
theorem transmitSleep_eq (s : State) :
    transmitSleep s = { s with
      txbuf := bufferOf [s.params.wordSleep], txlen := 1
      transport := s.transport.afterStatus
      events := .busWrite s.params.devAddr [s.params.wordSleep] (nextStatus s) :: s.events
      device := s.device.onSleep } := by
  simp only [transmitSleep, txBytes_loadTx]; rfl

/-- What W-CMD does, whole (R91, R151, R152). -/
theorem transmitCommand_eq (opcode p1 : Byte) (p2 : U16) (payload : List Byte) (s : State) :
    transmitCommand opcode p1 p2 payload s = { s with
      txbuf := bufferOf (commandFrame opcode p1 p2 payload), txlen := (commandFrame opcode p1 p2 payload).length
      crcAcc := crc16 (commandBody opcode p1 p2 payload), crcBit := 0#3
      transport := s.transport.afterStatus
      events := .busWrite s.params.devAddr (commandFrame opcode p1 p2 payload) (nextStatus s) :: s.events
      device := s.device.onCommand s.params opcode p1 p2 payload (nextStatus s) s.elapsedUs } := by
  have h : (crcRun (commandBody opcode p1 p2 payload)).bit = 0#3 := crcRun_bit _
  simp only [transmitCommand, buildCommand, txBytes_loadTx]
  simp only [loadTx, busWrite, runCrc, h]
  rfl

/-- W-CMD is the effect the statements expect (R151, R152, R181). -/
theorem transmitCommand_eq_commandWritten (opcode p1 : Byte) (p2 : U16) (payload : List Byte) (s : State) :
    transmitCommand opcode p1 p2 payload s = Safety.commandWritten opcode p1 p2 payload s := by
  rw [transmitCommand_eq]; rfl

/-! ## One attempt of a read -/

/-- An overrun: the event and the count, nothing else (R156). -/
theorem receiveBytes_overrun (k : Nat) (bytes : List Byte) (s : State) (h : k < bytes.length) :
    receiveBytes k bytes s = countAttempt k bytes s := by simp [receiveBytes, storeBytes, h]

/-- A short attempt: its bytes stand in `RXBUF`, and nothing is validated (R155, R156). -/
theorem receiveBytes_short (k : Nat) (bytes : List Byte) (s : State) (h : bytes.length < k) :
    receiveBytes k bytes s = loadRx bytes (countAttempt k bytes s) := by
  have h1 : ¬ k < bytes.length := by omega
  have h2 : ¬ bytes.length = k := by omega
  simp [receiveBytes, storeBytes, acceptBytes, h, h1, h2]

/-- What the bytes of a full-length read do (R155, R157, R158). -/
theorem storeBytes_full (bytes : List Byte) (s : State) :
    storeBytes bytes.length bytes s = { s with
      rxbuf := bufferOf bytes, rxlen := bytes.length
      device := s.device.onFullRead s.elapsedUs
      crcAcc := if lengthByteOk bytes.length bytes then crc16 (coveredBytes bytes.length bytes) else s.crcAcc
      crcBit := if lengthByteOk bytes.length bytes then 0#3 else s.crcBit } := by
  have h : (crcRun (coveredBytes bytes.length bytes)).bit = 0#3 := crcRun_bit _
  simp only [storeBytes, Nat.lt_irrefl, if_false, acceptBytes, if_true, checkBytes]
  split
  · simp only [loadRx, runCrc, h]; rfl
  · rfl

/-- A full-length attempt (R155, R157, R158). -/
theorem receiveBytes_full (bytes : List Byte) (s : State) :
    receiveBytes bytes.length bytes s = { s with
      attempts := s.attempts + 1
      events := .busRead s.params.devAddr bytes.length bytes :: s.events
      rxbuf := bufferOf bytes, rxlen := bytes.length
      device := s.device.onFullRead s.elapsedUs
      crcAcc := if lengthByteOk bytes.length bytes then crc16 (coveredBytes bytes.length bytes) else s.crcAcc
      crcBit := if lengthByteOk bytes.length bytes then 0#3 else s.crcBit } := by
  rw [receiveBytes, storeBytes_full]; rfl

/-- A full-length read of no RECV: as an attempt, but neither counted (R33) nor drawn from the transport. -/
theorem storeBytes_recordRead (k : Nat) (bytes : List Byte) (s : State) (h : bytes.length = k) :
    storeBytes k bytes (recordRead s.params.devAddr k bytes s) =
      { Safety.fullAttempt k bytes s with transport := s.transport, attempts := s.attempts } := by
  subst h; rw [storeBytes_full]; rfl

/-- A full-length attempt on the transport's answer is the effect the statements expect (R155, R157, R158). -/
theorem receiveBytes_eq_fullAttempt (k : Nat) (bytes : List Byte) (s : State) (h : bytes.length = k) :
    receiveBytes k bytes (takeAnswer s) = Safety.fullAttempt k bytes s := by
  subst h; rw [receiveBytes_full]; rfl

/-- A short attempt on the transport's answer is the effect the statements expect (R155, R156). -/
theorem receiveBytes_eq_attempted (k : Nat) (bytes : List Byte) (s : State) (h : bytes.length < k) :
    receiveBytes k bytes (takeAnswer s) = Safety.attempted k bytes s := by
  rw [receiveBytes_short _ _ _ h]; rfl

/-- Every attempt counts one and makes one event, whatever it returns. -/
theorem receiveBytes_counts (k : Nat) (bytes : List Byte) (s : State) :
    (receiveBytes k bytes s).attempts = s.attempts + 1 ∧
      (receiveBytes k bytes s).events = .busRead s.params.devAddr k bytes :: s.events := by
  unfold receiveBytes storeBytes acceptBytes checkBytes
  constructor <;> (repeat' split) <;> rfl

/-- What an attempt's verdict can be, with its condition (R155, R156, R268). -/
theorem judge_cases (k attempts limit : Nat) (bytes : List Byte) :
    (k < bytes.length ∧ judge k attempts limit bytes = .overrun) ∨
    (bytes.length < k ∧ attempts = limit ∧ judge k attempts limit bytes = .failed .transportRead) ∨
    (bytes.length < k ∧ attempts ≠ limit ∧ judge k attempts limit bytes = .again) ∨
    (bytes.length = k ∧ ∃ c, validateFrame k bytes = .error c ∧ judge k attempts limit bytes = .failed c) ∨
    (bytes.length = k ∧ ∃ d, validateFrame k bytes = .ok d ∧ judge k attempts limit bytes = .payload d) := by
  unfold judge
  rcases Nat.lt_trichotomy k bytes.length with h | h | h
  · exact .inl ⟨h, by simp [h]⟩
  · have h1 : ¬ k < bytes.length := by omega
    have h2 : ¬ bytes.length < k := by omega
    simp only [h1, h2, if_false]
    cases hv : validateFrame k bytes with
    | error c => exact .inr (.inr (.inr (.inl ⟨h.symm, c, rfl, rfl⟩)))
    | ok d => exact .inr (.inr (.inr (.inr ⟨h.symm, d, rfl, rfl⟩)))
  · have h1 : ¬ k < bytes.length := by omega
    by_cases ha : attempts = limit
    · exact .inr (.inl ⟨h, ha, by simp [h, h1, ha]⟩)
    · exact .inr (.inr (.inl ⟨h, ha, by simp [h, h1, ha]⟩))

/-- What one attempt of `frame_recv` can end in (R155 to R160). -/
theorem recvStep_cases (k : Nat) (onFail : ErrCode → State → State) (onPayload : List Byte → State → State)
    (s : State) :
    let t := receiveBytes k (nextAnswer s) (takeAnswer s)
    let r := recvStep k onFail onPayload s
    (k < (nextAnswer s).length ∧ r = raiseFault .transportContract t) ∨
    ((nextAnswer s).length < k ∧ s.attempts + 1 = s.params.readAttempts ∧ r = onFail .transportRead t) ∨
    ((nextAnswer s).length < k ∧ s.attempts + 1 ≠ s.params.readAttempts ∧ r = t) ∨
    ((nextAnswer s).length = k ∧ ∃ c, validateFrame k (nextAnswer s) = .error c ∧ r = onFail c t) ∨
    ((nextAnswer s).length = k ∧ ∃ d, validateFrame k (nextAnswer s) = .ok d ∧ r = onPayload d t) := by
  intro t r
  have hc : t.attempts = s.attempts + 1 := (receiveBytes_counts k (nextAnswer s) (takeAnswer s)).1
  have hr : r = match judge k (s.attempts + 1) s.params.readAttempts (nextAnswer s) with
      | .overrun => raiseFault .transportContract t
      | .again => t
      | .failed c => onFail c t
      | .payload data => onPayload data t := by
    rw [← hc]; rfl
  rcases judge_cases k (s.attempts + 1) s.params.readAttempts (nextAnswer s) with
    ⟨h, hj⟩ | ⟨h, ha, hj⟩ | ⟨h, ha, hj⟩ | ⟨h, c, hv, hj⟩ | ⟨h, d, hv, hj⟩
  · exact .inl ⟨h, by rw [hr, hj]⟩
  · exact .inr (.inl ⟨h, ha, by rw [hr, hj]⟩)
  · exact .inr (.inr (.inl ⟨h, ha, by rw [hr, hj]⟩))
  · exact .inr (.inr (.inr (.inl ⟨h, c, hv, by rw [hr, hj]⟩)))
  · exact .inr (.inr (.inr (.inr ⟨h, d, hv, by rw [hr, hj]⟩)))

/-- What the CMD_TX step can end in (R152). -/
theorem cmdTxStep_cases (opcode p1 : Byte) (p2 : U16) (payload : List Byte) (onSent : State → State) (s : State) :
    (nextStatus s = 0#8 ∧ cmdTxStep opcode p1 p2 payload onSent s = onSent (transmitCommand opcode p1 p2 payload s)) ∨
    (nextStatus s ≠ 0#8 ∧
      cmdTxStep opcode p1 p2 payload onSent s = finish .transportWrite [] (transmitCommand opcode p1 p2 payload s)) := by
  unfold cmdTxStep
  split
  · exact .inl ⟨‹_›, rfl⟩
  · exact .inr ⟨‹_›, rfl⟩

/-! ## The first step, and going on -/

/-- What the first step can do (R113, R114, R26). -/
theorem accept_cases (op : Instr) (s : State) :
    (op.wf = false ∧ accept op s = raiseFault .hostProtocol s) ∨
    (op.wf = true ∧ withinLimits s.params op = false ∧ accept op s = raiseFault .invariant s) ∨
    (op.wf = true ∧ withinLimits s.params op = true ∧ accept op s = accepted op s) := by
  unfold accept
  cases h1 : op.wf
  · exact .inl ⟨rfl, by simp⟩
  · cases h2 : withinLimits s.params op
    · exact .inr (.inl ⟨rfl, rfl, by simp⟩)
    · exact .inr (.inr ⟨rfl, rfl, by simp⟩)

/-- What one engine step of a host operation can do (R196, R197, R267). -/
theorem hostOp_cases (op : Instr) (goOn : State → Out) (s : State) :
    (s.fault = true ∧ hostOp op goOn s = .fault .engineFaulted) ∨
    (s.fault = false ∧ s.seqPhase = .ready ∧ hostOp op goOn s = .next (accept op s)) ∨
    (s.fault = false ∧ s.seqPhase ≠ .ready ∧ s.curOp = some op ∧ hostOp op goOn s = goOn s) ∨
    (s.fault = false ∧ s.seqPhase ≠ .ready ∧ s.curOp ≠ some op ∧
      hostOp op goOn s = .next (raiseFault .hostProtocol s)) := by
  unfold hostOp
  cases hf : s.fault
  · by_cases hp : s.seqPhase = .ready
    · exact .inr (.inl ⟨rfl, hp, by simp [hp]⟩)
    · by_cases ho : s.curOp = some op
      · exact .inr (.inr (.inl ⟨rfl, hp, ho, by simp [hp, ho]⟩))
      · exact .inr (.inr (.inr ⟨rfl, hp, ho, by simp [hp, ho]⟩))
  · exact .inl ⟨rfl, by simp⟩

/-- A host operation in READY takes its first step. -/
theorem hostOp_of_ready (op : Instr) (goOn : State → Out) (s : State) (h : Safety.Ready s) :
    hostOp op goOn s = .next (accept op s) := by simp [hostOp, h.1, h.2]

/-- A host operation in progress goes on. -/
theorem hostOp_of_inPhase (op : Instr) (goOn : State → Out) (p : Phase) (s : State) (h : Safety.InPhase op p s) :
    hostOp op goOn s = goOn s := by
  obtain ⟨hf, hp, ho, hr⟩ := h
  simp [hostOp, hf, hp, ho, hr]

/-! ## The status view -/

/-- What each bit of STATUS is (R27). -/
theorem statusBits_bits (busy fault valid ok : Bool) :
    (statusBits busy fault valid ok).getLsbD 0 = busy ∧ (statusBits busy fault valid ok).getLsbD 1 = fault ∧
      (statusBits busy fault valid ok).getLsbD 2 = valid ∧ (statusBits busy fault valid ok).getLsbD 3 = ok ∧
      (statusBits busy fault valid ok).extractLsb' 4 4 = 0#4 := by
  revert busy fault valid ok; decide

/-- Taking a fault sets the FAULT bit of STATUS and no other (R27, R267). -/
theorem statusByte_raiseFault (r : FaultReason) (s : State) :
    statusByte (raiseFault r s) = statusByte s ||| 0x02#8 := by
  have h : ∀ b f v o : Bool, statusBits b true v o = statusBits b f v o ||| 0x02#8 := by decide
  exact h s.busy s.fault s.result.valid (statusOk s)

/-! ## What the device knows of a command -/

/-- The settle minimum of an opcode that a table row has and no other row of that opcode exceeds (R296). -/
theorem settleMinimum_of_row (p : Config.Params) (r : Byte × Nat) (hr : r ∈ Safety.commandMinimums p)
    (hm : ∀ q ∈ Safety.commandMinimums p, q.1 = r.1 → q.2 ≤ r.2) : settleMinimum p r.1 = some r.2 := by
  have g : ∀ l : List (Byte × U16), (l.filter (fun q => q.1 == r.1)).map (fun q => q.2.toNat) =
      ((l.map fun q => (q.1, q.2.toNat)).filter (fun q => q.1 == r.1)).map Prod.snd := by
    intro l
    induction l with
    | nil => rfl
    | cons a l ih => simp only [List.filter_cons, List.map_cons]; split <;> simp_all
  unfold settleMinimum
  rw [g, List.max?_eq_some_iff]
  refine ⟨List.mem_map.2 ⟨r, List.mem_filter.2 ⟨hr, by simp⟩, rfl⟩, fun b hb => ?_⟩
  obtain ⟨q, hq, rfl⟩ := List.mem_map.1 hb
  obtain ⟨h1, h2⟩ := List.mem_filter.1 hq
  exact hm q h1 (by simpa using h2)

/-- The response length of a command that fits a profile, where every profile it fits agrees (R198 (b)). -/
theorem responseLength_of_profile (p : Config.Params) (opcode p1 : Byte) (p2 : U16) (payload : List Byte) (r : Profile)
    (hr : r ∈ profiles p) (hf : r.fits opcode p1 p2 payload = true)
    (hq : ∀ q ∈ profiles p, q.fits opcode p1 p2 payload = true → q.responseLength = r.responseLength) :
    responseLength p opcode p1 p2 payload = some r.responseLength := by
  have hm : ∀ n ∈ ((profiles p).filter fun q => q.fits opcode p1 p2 payload).map Profile.responseLength,
      n = r.responseLength := by
    intro n hn
    obtain ⟨q, hq', rfl⟩ := List.mem_map.1 hn
    exact hq q (List.mem_filter.1 hq').1 (List.mem_filter.1 hq').2
  have hr' : r.responseLength ∈ ((profiles p).filter fun q => q.fits opcode p1 p2 payload).map
      Profile.responseLength := List.mem_map.2 ⟨r, List.mem_filter.2 ⟨hr, hf⟩, rfl⟩
  unfold responseLength
  split
  · rename_i h; rw [h] at hr'; cases hr'
  · rename_i n rest h
    rw [h] at hm
    rw [hm n List.mem_cons_self, if_pos]
    exact List.all_eq_true.2 fun m hmem => by simp [hm m (List.mem_cons_of_mem _ hmem)]

/-! ## One step of the machine -/

/-- What issuing a descriptor can do (R113, R196, R267). -/
theorem issueDescriptor_cases (d : List Byte) (s : State) :
    (s.fault = true ∧ issueDescriptor d s = .fault .engineFaulted) ∨
    (s.fault = false ∧ s.seqPhase = .ready ∧ ∃ i, decode d = .ok i ∧ issueDescriptor d s = exec i s) ∨
    (s.fault = false ∧ (s.seqPhase = .ready → ∃ e, decode d = .error e) ∧
      issueDescriptor d s = .next (raiseFault .hostProtocol s)) := by
  unfold issueDescriptor
  cases hf : s.fault
  · by_cases hp : s.seqPhase = .ready
    · cases hd : decode d with
      | error e => exact .inr (.inr ⟨rfl, fun _ => ⟨e, rfl⟩, by simp [hp]⟩)
      | ok i => exact .inr (.inl ⟨rfl, hp, i, rfl, by simp [hp]⟩)
    · exact .inr (.inr ⟨rfl, fun h => absurd h hp, by simp [hp]⟩)
  · exact .inl ⟨rfl, by simp⟩

/-- The engine's turn while an operation is in progress. -/
theorem engineTurn_of_inPhase (op : Instr) (p : Phase) (s : State) (h : Safety.InPhase op p s) :
    engineTurn s = exec op s := by
  obtain ⟨hf, hp, ho, hr⟩ := h
  simp [engineTurn, hf, hp, ho, hr]

/-- The engine's turn in READY is the host's. -/
theorem engineTurn_of_ready (s : State) (h : Safety.Ready s) : engineTurn s = hostTurn s := by
  simp [engineTurn, h.1, h.2]

/-- A step with no external action is the engine's turn. -/
theorem step_of_empty (s : State) (h : s.inbox = []) : step s = engineTurn s := by
  unfold step; rw [h]

/-- A step with an external action is that action. -/
theorem step_of_cons (s : State) (i : Input) (l : List Input) (h : s.inbox = i :: l) :
    step s = takeInput i (popInbox s) := by
  unfold step; rw [h]

end Sys2Proof.Machine
end

