-- ==== Sys2Proof/Laws/PerInstr.lean ====
section
/-! SUPPORT. Per-instruction laws about the instructions as syntax: the length of an instruction's words, which the
table's "length" column and R104 to R110, R90 give. -/

namespace Sys2Proof.Laws

open Machine

/-- The number of bytes of an instruction's words (R90, R104 to R110); a pseudo-instruction's are those of its EXCH. -/
def EncodedLength.bytes : Instr → Nat
  | .crc bytes => 2 + bytes.length
  | .send _ _ _ payload => 6 + payload.length
  | .recv _ => 2
  | .wake => 1
  | .idle => 1
  | .sleep => 1
  | .wait _ => 3
  | .exch _ _ _ _ _ _ payload => 10 + payload.length
  | .xact _ _ _ _ _ _ _ payload => 11 + payload.length
  | .reserved _ rest => 1 + rest.length
  | .wCmd _ _ _ payload => 8 + payload.length
  | .wRsp payload => payload.length + 3
  | .wIdle => 1
  | .wSleep => 1
  | .wWake => 0
  | .random => 10
  | .genkeyCreate _ => 10
  | .genkeyPublic _ => 10
  | .nonce digest => 10 + digest.length
  | .sign _ => 10
  | .verify _ _ => 138
  | .read4 _ _ => 10
  | .read32 _ _ => 10
  | .write4 _ _ _ => 14
  | .write32 _ _ _ => 42
  | .lockConfig => 10
  | .lockData => 10
  | .info => 10

/-- A well-formed instruction has words of the length its row gives. -/
def EncodedLength.Statement (i : Instr) : Prop :=
  ∀ p : Config.Params, i.wf = true → (encode p i).length = EncodedLength.bytes i

theorem EncodedLength.crc (bytes : List Byte) : EncodedLength.Statement (.crc bytes) := by
  intro p _
  simp [encode, expand, encodeCore, EncodedLength.bytes]; omega

theorem EncodedLength.send (opcode : Byte) (p1 : Byte) (p2 : U16) (payload : List Byte) : EncodedLength.Statement (.send opcode p1 p2 payload) := by
  intro p _
  simp [encode, expand, encodeCore, EncodedLength.bytes]; omega

theorem EncodedLength.recv (n : Byte) : EncodedLength.Statement (.recv n) := by
  intro p _
  rfl

theorem EncodedLength.wake : EncodedLength.Statement .wake := by
  intro p _
  rfl

theorem EncodedLength.idle : EncodedLength.Statement .idle := by
  intro p _
  rfl

theorem EncodedLength.sleep : EncodedLength.Statement .sleep := by
  intro p _
  rfl

theorem EncodedLength.wait (t : U16) : EncodedLength.Statement (.wait t) := by
  intro p _
  rfl

theorem EncodedLength.exch (opcode : Byte) (p1 : Byte) (p2 : U16) (settle : U16) (n : Byte) (sc : Bool) (payload : List Byte) : EncodedLength.Statement (.exch opcode p1 p2 settle n sc payload) := by
  intro p _
  simp [encode, expand, encodeCore, encodeExch, EncodedLength.bytes]; omega

theorem EncodedLength.xact (opcode : Byte) (p1 : Byte) (p2 : U16) (settle : U16) (n : Byte) (sc : Bool) (drain : Byte) (payload : List Byte) : EncodedLength.Statement (.xact opcode p1 p2 settle n sc drain payload) := by
  intro p _
  simp [encode, expand, encodeCore, EncodedLength.bytes]; omega

theorem EncodedLength.reserved (op : Byte) (rest : List Byte) : EncodedLength.Statement (.reserved op rest) := by
  intro p _
  simp [encode, expand, encodeCore, EncodedLength.bytes]; omega

theorem EncodedLength.wCmd (opcode : Byte) (p1 : Byte) (p2 : U16) (payload : List Byte) : EncodedLength.Statement (.wCmd opcode p1 p2 payload) := by
  intro p _
  simp [encode, expand, encodeCore, EncodedLength.bytes]

theorem EncodedLength.wRsp (payload : List Byte) : EncodedLength.Statement (.wRsp payload) := by
  intro p _
  simp [encode, expand, encodeCore, EncodedLength.bytes]

theorem EncodedLength.wIdle : EncodedLength.Statement .wIdle := by
  intro p _
  rfl

theorem EncodedLength.wSleep : EncodedLength.Statement .wSleep := by
  intro p _
  rfl

theorem EncodedLength.wWake : EncodedLength.Statement .wWake := by
  intro p _
  rfl

theorem EncodedLength.random : EncodedLength.Statement .random := by
  intro p _
  rfl

theorem EncodedLength.genkeyCreate (slot : U16) : EncodedLength.Statement (.genkeyCreate slot) := by
  intro p _
  rfl

theorem EncodedLength.genkeyPublic (slot : U16) : EncodedLength.Statement (.genkeyPublic slot) := by
  intro p _
  rfl

theorem EncodedLength.nonce (digest : List Byte) : EncodedLength.Statement (.nonce digest) := by
  intro p _
  simp [encode, expand, encodeCore, encodeExch, EncodedLength.bytes]; omega

theorem EncodedLength.sign (slot : U16) : EncodedLength.Statement (.sign slot) := by
  intro p _
  rfl

theorem EncodedLength.verify (signature : List Byte) (publicKey : List Byte) : EncodedLength.Statement (.verify signature publicKey) := by
  intro p h
  simp_all [encode, expand, encodeCore, encodeExch, EncodedLength.bytes, Instr.wf]

theorem EncodedLength.read4 (zone : Zone) (word : U16) : EncodedLength.Statement (.read4 zone word) := by
  intro p _
  rfl

theorem EncodedLength.read32 (zone : Zone) (word : U16) : EncodedLength.Statement (.read32 zone word) := by
  intro p _
  rfl

theorem EncodedLength.write4 (zone : Zone) (word : U16) (data : List Byte) : EncodedLength.Statement (.write4 zone word data) := by
  intro p h
  simp_all [encode, expand, encodeCore, encodeExch, EncodedLength.bytes, Instr.wf]

theorem EncodedLength.write32 (zone : Zone) (word : U16) (data : List Byte) : EncodedLength.Statement (.write32 zone word data) := by
  intro p h
  simp_all [encode, expand, encodeCore, encodeExch, EncodedLength.bytes, Instr.wf]

theorem EncodedLength.lockConfig : EncodedLength.Statement .lockConfig := by
  intro p _
  rfl

theorem EncodedLength.lockData : EncodedLength.Statement .lockData := by
  intro p _
  rfl

theorem EncodedLength.info : EncodedLength.Statement .info := by
  intro p _
  rfl

end Sys2Proof.Laws
end

