-- ==== Sys2Proof/Laws/Step.lean ====
section
/-! SUPPORT. What one step can do, said once: the rows of 42_sequencer.md R197 as a table, what an instruction does in
each state of the engine, and what issuing a descriptor and the two turns can end in. -/

namespace Sys2Proof.Machine

/-- The table of R197 with each row's effect: the event of the host operation `op` in the phase `p`. -/
def phaseStep (op : Instr) (p : Phase) (s : State) : Option State :=
  match op, p with
  | .crc bytes, .crcRun => some (crcStep bytes s)
  | .send opcode p1 p2 payload, .cmdTx => some (cmdTxStep opcode p1 p2 payload (finish .ok []) s)
  | .recv n, .respRx => some (recvStep (requestLength n) failWith (finish .ok) s)
  | .wake, .wakeTx => some (wakeTxStep s)
  | .wake, .wakeSettle => some (wakeSettleStep s)
  | .wake, .wakeRx => some (wakeRxStep (finish .ok []) s)
  | .idle, .idleTx => some (idleStep s)
  | .sleep, .sleepTx => some (sleepStep s)
  | .wait t, .delay => some (waitStep t s)
  | .exch opcode p1 p2 _ _ _ payload, .cmdTx => some (cmdTxStep opcode p1 p2 payload (setPhase .settle) s)
  | .exch _ _ _ settle _ _ _, .settle => some (settleStep settle s)
  | .exch _ _ _ _ n statusCheck _, .respRx => some (respRxStep n statusCheck (finish .ok) s)
  | .xact _ _ _ _ _ _ _ _, .wakeTx => some (wakeTxStep s)
  | .xact _ _ _ _ _ _ _ _, .wakeSettle => some (wakeSettleStep s)
  | .xact _ _ _ _ _ _ _ _, .wakeRx => some (wakeRxStep (setPhase .cmdTx) s)
  | .xact opcode p1 p2 _ _ _ _ payload, .cmdTx => some (cmdTxStep opcode p1 p2 payload (setPhase .settle) s)
  | .xact _ _ _ settle _ _ _ _, .settle => some (settleStep settle s)
  | .xact _ _ _ _ n statusCheck _ _, .respRx => some (respRxStep n statusCheck (fun _ => setPhase .drain) s)
  | .xact _ _ _ _ _ _ drain _, .drain => some (drainStep drain s)
  | .xact _ _ _ _ n _ _ _, .idleTx => some (xactIdleStep n s)
  | _, _ => none

/-- A host operation in READY takes its first step. -/
theorem exec_of_ready (op : Instr) (s : State) (hk : op.isHostOp = true) (h : Safety.Ready s) :
    exec op s = .next (accept op s) := by
  cases op <;> first | exact hostOp_of_ready _ _ s h | simp [Instr.isHostOp] at hk

/-- A host operation in progress does the event of its phase; a phase that is none of its own is stuck (R23, R197). -/
theorem exec_of_inPhase (op : Instr) (p : Phase) (s : State) (hk : op.isHostOp = true)
    (h : Safety.InPhase op p s) :
    exec op s = match phaseStep op p s with
      | some t => .next t
      | none => .fault .impossiblePhase := by
  have hp := h.2.1
  cases op <;> first
    | (simp only [exec, execCrc, execSend, execRecv, execWake, execIdle, execSleep, execWait, execExch, exchange,
        execXact, hostOp_of_inPhase _ _ p s h, crcPhases, sendPhases, recvPhases, wakePhases, idlePhases, sleepPhases,
        waitPhases, exchPhases, xactPhases, hp]
       cases p <;> rfl)
    | simp [Instr.isHostOp] at hk

/-- What a decoded descriptor is: a host operation that is well-formed, or a reserved one. -/
theorem isHostOp_of_decode (d : List Byte) (i : Instr) (h : decode d = .ok i) :
    (i.isHostOp = true) ∨ ∃ op rest, i = .reserved op rest := by
  unfold decode decodeCrc decodeSend decodeRecv decodeBare decodeWait decodeExch decodeXact checkFlags at h
  repeat' split at h
  all_goals first
    | cases h; exact .inl rfl
    | cases h; exact .inr ⟨_, _, rfl⟩
    | cases h

/-- What issuing a descriptor that has a next state can do: a fault, or an operation's first step. -/
theorem issueDescriptor_next (d : List Byte) (s t : State) (h : issueDescriptor d s = .next t) :
    s.fault = false ∧
      ((∃ r, t = raiseFault r s) ∨
        (s.seqPhase = .ready ∧ ∃ op, op.isHostOp = true ∧ op.wf = true ∧ withinLimits s.params op = true ∧
          t = accepted op s)) := by
  rcases issueDescriptor_cases d s with ⟨_, hi⟩ | ⟨hf, hp, i, hd, hi⟩ | ⟨hf, _, hi⟩
  · rw [hi] at h; cases h
  · rw [hi] at h
    refine ⟨hf, ?_⟩
    rcases isHostOp_of_decode d i hd with hk | ⟨op, rest, rfl⟩
    · rw [exec_of_ready i s hk ⟨hf, hp⟩] at h
      cases h
      rcases accept_cases i s with ⟨_, ha⟩ | ⟨_, _, ha⟩ | ⟨hw, hl, ha⟩
      · exact .inl ⟨_, ha⟩
      · exact .inl ⟨_, ha⟩
      · exact .inr ⟨hp, i, hk, hw, hl, ha⟩
    · simp only [exec, execReserved, hf] at h
      cases h
      exact .inl ⟨_, rfl⟩
  · rw [hi] at h; cases h
    exact ⟨hf, .inl ⟨_, rfl⟩⟩

/-- What the host's turn that has a next state can do (R121). -/
theorem hostTurn_next (s t : State) (h : hostTurn s = .next t) :
    t = s ∨ (∃ l, s.host.inFlight = some l ∧ t = collectResult l s) ∨
      ∃ l rest, s.host.program = l :: rest ∧
        issueDescriptor (lineDescriptor s.params l) (takeLine l rest s) = .next t := by
  unfold hostTurn at h
  split at h
  · rename_i l hl; cases h; exact .inr (.inl ⟨l, hl, rfl⟩)
  · split at h
    · rename_i l rest _ hp; exact .inr (.inr ⟨l, rest, hp, h⟩)
    · cases h; exact .inl rfl

/-- What the engine's turn that has a next state can do. -/
theorem engineTurn_next (s t : State) (h : engineTurn s = .next t) :
    s.fault = false ∧
      ((s.seqPhase = .ready ∧ hostTurn s = .next t) ∨
        (s.seqPhase ≠ .ready ∧ ∃ op, s.curOp = some op ∧ exec op s = .next t)) := by
  unfold engineTurn at h
  split at h
  · cases h
  · rename_i hf
    have hf' : s.fault = false := by simpa using hf
    split at h
    · exact ⟨hf', .inl ⟨‹_›, h⟩⟩
    · split at h
      · rename_i hp _ op ho; exact ⟨hf', .inr ⟨hp, op, ho, h⟩⟩
      · cases h

/-- A pseudo-instruction does what its EXCH does (R122); every other instruction is its own expansion. -/
theorem exec_expand (i : Instr) (s : State) : exec (expand s.params i) s = exec i s := by
  cases i <;> rfl

/-- A pseudo-instruction expands to a host operation. -/
theorem isHostOp_expand (p : Config.Params) (i : Instr) (hk : i.isPseudo = true) : (expand p i).isHostOp = true := by
  cases i <;> first | rfl | simp [Instr.isPseudo] at hk

/-- What an engine step of a host operation that has a next state can do: a fault, an operation's first step, or the
event of the operation in progress. -/
def EngineMove (s t : State) : Prop :=
  (∃ r, t = raiseFault r s) ∨
    (s.seqPhase = .ready ∧ ∃ op, op.isHostOp = true ∧ op.wf = true ∧ withinLimits s.params op = true ∧
      t = accepted op s) ∨
    (s.seqPhase ≠ .ready ∧ ∃ op, op.isHostOp = true ∧ s.curOp = some op ∧ phaseStep op s.seqPhase s = some t)

/-- An instruction that is a host operation moves the engine. -/
theorem hostOp_next (op : Instr) (s t : State) (hk : op.isHostOp = true) (h : exec op s = .next t) :
    s.fault = false ∧ EngineMove s t := by
  have hc : ∃ goOn, exec op s = hostOp op goOn s := by
    cases op <;> first | exact ⟨_, rfl⟩ | simp [Instr.isHostOp] at hk
  obtain ⟨goOn, hg⟩ := hc
  rcases hostOp_cases op goOn s with ⟨_, ho⟩ | ⟨hf, hp, ho⟩ | ⟨hf, hp, hcur, _⟩ | ⟨hf, hp, _, ho⟩
  · rw [hg, ho] at h; cases h
  · rw [hg, ho] at h; cases h
    refine ⟨hf, ?_⟩
    rcases accept_cases op s with ⟨_, ha⟩ | ⟨_, _, ha⟩ | ⟨hw, hl, ha⟩
    · exact .inl ⟨_, ha⟩
    · exact .inl ⟨_, ha⟩
    · exact .inr (.inl ⟨hp, op, hk, hw, hl, ha⟩)
  · refine ⟨hf, .inr (.inr ⟨hp, op, hk, hcur, ?_⟩)⟩
    rw [exec_of_inPhase op s.seqPhase s hk ⟨hf, rfl, hcur, hp⟩] at h
    split at h
    · rename_i u hu; cases h; exact hu
    · cases h
  · rw [hg, ho] at h; cases h
    exact ⟨hf, .inl ⟨_, rfl⟩⟩

/-- The bus event alone that a row of the wire formats is, within its bound. -/
def wireStep (i : Instr) (s : State) : Option State :=
  match i with
  | .wCmd opcode p1 p2 payload =>
    if payload.length ≤ s.params.maxPayload then some (transmitCommand opcode p1 p2 payload s) else none
  | .wRsp payload =>
    if payload.length ≤ 252 then
      some (storeBytes (payload.length + 3) (responseFrame payload)
        (recordRead s.params.devAddr (payload.length + 3) (responseFrame payload) s))
    else none
  | .wIdle => some (transmitIdle s)
  | .wSleep => some (transmitSleep s)
  | .wWake => some (transmitWake s)
  | _ => none

/-- A wire format that has a next state is its bus event. -/
theorem onBus_next (f : State → State) (s t : State) (h : onBus f s = .next t) : s.fault = false ∧ t = f s := by
  unfold onBus at h
  split at h
  · cases h
  · rename_i hf; cases h; exact ⟨by simpa using hf, rfl⟩

/-- What any instruction that has a next state can do. -/
theorem exec_next (i : Instr) (s t : State) (h : exec i s = .next t) :
    s.fault = false ∧ (EngineMove s t ∨ wireStep i s = some t) := by
  by_cases hk : i.isHostOp = true
  · obtain ⟨hf, hm⟩ := hostOp_next i s t hk h
    exact ⟨hf, .inl hm⟩
  by_cases hq : i.isPseudo = true
  · rw [← exec_expand i s] at h
    obtain ⟨hf, hm⟩ := hostOp_next _ s t (isHostOp_expand _ i hq) h
    exact ⟨hf, .inl hm⟩
  cases i with
  | reserved op rest =>
    simp only [exec, execReserved] at h
    split at h
    · cases h
    · rename_i hf; cases h; exact ⟨by simpa using hf, .inl (.inl ⟨_, rfl⟩)⟩
  | wCmd o p1 p2 pl =>
    obtain ⟨hf, rfl⟩ := onBus_next _ s t h
    refine ⟨hf, ?_⟩
    by_cases hb : pl.length ≤ s.params.maxPayload
    · exact .inr (by simp [wireStep, bounded, hb])
    · exact .inl (.inl ⟨.invariant, by simp [bounded, hb]⟩)
  | wRsp d =>
    obtain ⟨hf, rfl⟩ := onBus_next _ s t h
    refine ⟨hf, ?_⟩
    by_cases hb : d.length ≤ 252
    · exact .inr (by simp [wireStep, bounded, hb, Config.MAX_EXPECTED])
    · exact .inl (.inl ⟨.invariant, by simp [bounded, hb, Config.MAX_EXPECTED]⟩)
  | wIdle => obtain ⟨hf, rfl⟩ := onBus_next _ s t h; exact ⟨hf, .inr rfl⟩
  | wSleep => obtain ⟨hf, rfl⟩ := onBus_next _ s t h; exact ⟨hf, .inr rfl⟩
  | wWake => obtain ⟨hf, rfl⟩ := onBus_next _ s t h; exact ⟨hf, .inr rfl⟩
  | _ => simp [Instr.isHostOp, Instr.isPseudo] at hk hq

/-- What the machine's step can do with no external action: the host takes a result, the host has nothing to do, the
engine moves (after a line was taken off the listing or not), or, where the operation in progress is no host operation,
a wire format is performed. -/
theorem engineTurn_moves (s t : State) (h : engineTurn s = .next t) :
    s.fault = false ∧
      ((s.seqPhase = .ready ∧ t = s) ∨
        (s.seqPhase = .ready ∧ ∃ l, s.host.inFlight = some l ∧ t = collectResult l s) ∨
        (s.seqPhase = .ready ∧ ∃ l rest, s.host.program = l :: rest ∧ EngineMove (takeLine l rest s) t) ∨
        (s.seqPhase ≠ .ready ∧ ∃ op, s.curOp = some op ∧ (EngineMove s t ∨ wireStep op s = some t))) := by
  obtain ⟨hf, ⟨hp, ht⟩ | ⟨hp, op, ho, he⟩⟩ := engineTurn_next s t h
  · refine ⟨hf, ?_⟩
    rcases hostTurn_next s t ht with rfl | ⟨l, hl, rfl⟩ | ⟨l, rest, hl, hi⟩
    · exact .inl ⟨hp, rfl⟩
    · exact .inr (.inl ⟨hp, l, hl, rfl⟩)
    · obtain ⟨_, hm⟩ := issueDescriptor_next _ _ t hi
      refine .inr (.inr (.inl ⟨hp, l, rest, hl, ?_⟩))
      rcases hm with ⟨r, hr⟩ | hm
      · exact .inl ⟨r, hr⟩
      · exact .inr (.inl hm)
  · exact ⟨hf, .inr (.inr (.inr ⟨hp, op, ho, (exec_next op s t he).2⟩))⟩

/-- What one step that has a next state can do: the engine's turn, a move of the engine on a descriptor that arrived, or
one of the other external actions. -/
theorem step_moves (s t : State) (h : step s = .next t) :
    (s.inbox = [] ∧ engineTurn s = .next t) ∨
    (∃ rest, s.inbox = .engineTurn :: rest ∧ engineTurn (popInbox s) = .next t) ∨
    (∃ d rest, s.inbox = .issue d :: rest ∧ s.fault = false ∧ EngineMove (popInbox s) t) ∨
    (∃ l rest, s.inbox = .start l :: rest ∧ t = startProgram l (popInbox s)) ∨
    (∃ r rest v, s.inbox = .readReg r :: rest ∧ t = deliverRead r v (popInbox s)) ∨
    (s.fault = false ∧ t = raiseFault .hostProtocol (popInbox s)) ∨
    (∃ rest, s.inbox = .busInit :: rest ∧ t = busInit (popInbox s)) ∨
    (∃ rest, s.inbox = .engineReset :: rest ∧ t = engineReset (popInbox s)) ∨
    (∃ rest, s.inbox = .devicePowerOn :: rest ∧ t = devicePowerOn (popInbox s)) ∨
    (∃ rest, s.inbox = .deviceTimeout :: rest ∧ t = deviceTimeout (popInbox s)) := by
  unfold step at h
  split at h
  · rename_i hi; exact .inl ⟨hi, h⟩
  · rename_i i rest hi
    right
    cases i <;> simp only [takeInput] at h
    · obtain ⟨hf, hm⟩ := issueDescriptor_next _ _ _ h
      refine .inr (.inl ⟨_, _, hi, hf, ?_⟩)
      rcases hm with ⟨r, hr⟩ | hm
      · exact .inl ⟨r, hr⟩
      · exact .inr (.inl hm)
    · cases h; exact .inr (.inr (.inl ⟨_, _, hi, rfl⟩))
    · unfold readRegister at h
      split at h
      · cases h; exact .inr (.inr (.inr (.inl ⟨_, _, _, hi, rfl⟩)))
      · split at h
        · cases h
        · rename_i hf; cases h; exact .inr (.inr (.inr (.inr (.inl ⟨by simpa using hf, rfl⟩))))
    · unfold writeRegister at h
      split at h
      · cases h
      · rename_i hf; cases h; exact .inr (.inr (.inr (.inr (.inl ⟨by simpa using hf, rfl⟩))))
    · cases h; exact .inr (.inr (.inr (.inr (.inr (.inl ⟨_, hi, rfl⟩)))))
    · cases h; exact .inr (.inr (.inr (.inr (.inr (.inr (.inl ⟨_, hi, rfl⟩))))))
    · cases h; exact .inr (.inr (.inr (.inr (.inr (.inr (.inr (.inl ⟨_, hi, rfl⟩)))))))
    · cases h; exact .inr (.inr (.inr (.inr (.inr (.inr (.inr (.inr ⟨_, hi, rfl⟩)))))))
    · exact .inl ⟨_, hi, h⟩

end Sys2Proof.Machine
end

