-- ==== Sys2Proof/Machine/Assembler.lean ====
section
/-! DEFINITION. The assembler text of a listing (30_encoding.md R120 to R122): what one line of text stands for. The text
is the host's tool: what reaches the machine is the list of lines it gives (`Input.start`). -/

namespace Sys2Proof.Machine

/-- A token of a line. -/
inductive Token where
  /-- A mnemonic, a number, a parameter name, `S` or a hex pair. -/
  | word (cs : List Char)
  | comma
  | openList
  | closeList
  /-- The best-effort mark `?` (R121). -/
  | mark
  deriving DecidableEq, Repr

/-- An operand (R120). -/
inductive Arg where
  /-- A number, or a parameter name standing for its value. -/
  | number (n : Nat)
  /-- `S`: `STATUS_CHECK`. -/
  | check
  /-- A byte list. -/
  | bytes (s : List Byte)
  deriving DecidableEq, Repr

/-- Why a line is no line of R120. -/
inductive AsmError where
  /-- The first word is no operation or pseudo-instruction. -/
  | unknownMnemonic
  /-- The operands are none of the operation's forms, or one of them is out of range. -/
  | operands
  deriving DecidableEq, Repr

/-- The word collected so far, as a token. -/
def flushWord (acc : List Char) : List Token := if acc = [] then [] else [.word acc.reverse]

/-- The token that one character is, if it is one by itself. -/
def punctuation? : Char → Option Token
  | ',' => some .comma
  | '[' => some .openList
  | ']' => some .closeList
  | '?' => some .mark
  | _ => none

/-- The tokens of a line; `;` starts a comment (R120). `acc` is the word being read, reversed. -/
def tokens : List Char → List Char → List Token
  | [], acc => flushWord acc
  | c :: cs, acc =>
    if c = ';' then flushWord acc
    else if c = ' ' ∨ c = '\t' then flushWord acc ++ tokens cs []
    else
      match punctuation? c with
      | some t => flushWord acc ++ t :: tokens cs []
      | none => tokens cs (c :: acc)

/-- The value of a hexadecimal digit. -/
def hexDigit? (c : Char) : Option Nat :=
  if 48 ≤ c.toNat ∧ c.toNat ≤ 57 then some (c.toNat - 48)
  else if 65 ≤ c.toNat ∧ c.toNat ≤ 70 then some (c.toNat - 55)
  else if 97 ≤ c.toNat ∧ c.toNat ≤ 102 then some (c.toNat - 87)
  else none

/-- A number in the given base from its digits, most significant first. -/
def digits? (base : Nat) : List Char → Nat → Option Nat
  | [], acc => some acc
  | c :: cs, acc =>
    match hexDigit? c with
    | some d => if d < base then digits? base cs (base * acc + d) else none
    | none => none

/-- A decimal or `0x`-hexadecimal number (R120). -/
def literal? : List Char → Option Nat
  | [] => none
  | '0' :: 'x' :: c :: cs => digits? 16 (c :: cs) 0
  | c :: cs => digits? 10 (c :: cs) 0

/-- The parameter names of R6 and R7 with their values. The spec gives `T_WATCHDOG` no unit and the four bytes of
`DEVICE_FAMILY` no order: that the first stands for its microseconds, and the second for the value of its 32-bit field, is
the model's choice (log entry 35). -/
def parameterNames (p : Config.Params) : List (String × Nat) :=
  [("FRAME_CMD", Config.FRAME_CMD.toNat), ("CRC_WIDTH", 16), ("CRC_POLY", Config.CRC_POLY.toNat),
   ("CRC_INIT", Config.CRC_INIT.toNat), ("READY_CODE", Config.READY_CODE.toNat), ("READ_RETRIES", Config.READ_RETRIES),
   ("ZONE_CONFIG", 0), ("ZONE_OTP", 1), ("ZONE_DATA", 2), ("T_RANDOM_MS", Config.T_RANDOM_MS.toNat),
   ("T_GENKEY_MS", Config.T_GENKEY_MS.toNat), ("T_SIGN_MS", Config.T_SIGN_MS.toNat),
   ("T_VERIFY_MS", Config.T_VERIFY_MS.toNat), ("T_WRITE_MS", Config.T_WRITE_MS.toNat),
   ("T_READ_MS", Config.T_READ_MS.toNat), ("T_LOCK_MS", Config.T_LOCK_MS.toNat),
   ("T_DRAIN_MS", Config.T_DRAIN_MS.toNat), ("RANDOM_BLOCK", Config.RANDOM_BLOCK)] ++
  [("DEV_ADDR", p.devAddr), ("GENERAL_CALL_ADDR", p.generalCallAddr), ("BUS_ADDR_BITS", p.busAddrBits),
   ("BUS_CLOCK", p.busClock), ("WORD_IDLE", p.wordIdle.toNat), ("WORD_SLEEP", p.wordSleep.toNat),
   ("T_WAKE_US", p.tWakeUs), ("READ_ATTEMPTS", p.readAttempts), ("MAX_PAYLOAD", p.maxPayload),
   ("T_NONCE_MS", p.tNonceMs.toNat), ("T_INFO_MS", p.tInfoMs.toNat), ("T_WATCHDOG", p.tWatchdogUs),
   ("OP_RANDOM", p.opRandom.toNat), ("OP_GENKEY", p.opGenkey.toNat), ("OP_NONCE", p.opNonce.toNat),
   ("OP_SIGN", p.opSign.toNat), ("OP_VERIFY", p.opVerify.toNat), ("OP_READ", p.opRead.toNat),
   ("OP_WRITE", p.opWrite.toNat), ("OP_LOCK", p.opLock.toNat), ("OP_INFO", p.opInfo.toNat)] ++
  [("RANDOM_P1", p.randomP1.toNat), ("RANDOM_P2", p.randomP2.toNat),
   ("GENKEY_MODE_CREATE", p.genkeyModeCreate.toNat), ("GENKEY_MODE_PUBLIC", p.genkeyModePublic.toNat),
   ("NONCE_MODE", p.nonceMode.toNat), ("NONCE_P2", p.nonceP2.toNat), ("SIGN_MODE", p.signMode.toNat),
   ("VERIFY_MODE", p.verifyMode.toNat), ("VERIFY_CURVE_P256", p.verifyCurveP256.toNat),
   ("LOCK_SEL_CONFIG", p.lockSelConfig.toNat), ("LOCK_SEL_DATA_OTP", p.lockSelDataOtp.toNat),
   ("LOCK_P2", p.lockP2.toNat), ("INFO_MODE", p.infoMode.toNat), ("INFO_P2", p.infoP2.toNat),
   ("ZONE_SEL_32", p.zoneSel32.toNat), ("DEVICE_FAMILY", p.deviceFamily.toNat)]

/-- The value a word stands for as a number operand (R120). -/
def numberWord? (p : Config.Params) (w : List Char) : Option Nat :=
  match literal? w with
  | some n => some n
  | none => ((parameterNames p).find? fun r => r.1.toList == w).map Prod.snd

/-- A hex pair of a byte list (R120). -/
def hexPair? : List Char → Option Byte
  | [a, b] =>
    match hexDigit? a, hexDigit? b with
    | some x, some y => some (BitVec.ofNat 8 (16 * x + y))
    | _, _ => none
  | _ => none

/-- Where a scan of the operands stands. -/
inductive ArgMode where
  /-- An operand must come. -/
  | item
  /-- A comma or the end must come. -/
  | separator
  /-- Inside a byte list, with the bytes read so far. -/
  | inList (s : List Byte)
  deriving DecidableEq, Repr

/-- The operands of a line, separated by commas. -/
def args? (p : Config.Params) : ArgMode → List Token → Option (List Arg)
  | .item, .openList :: ts => args? p (.inList []) ts
  | .item, .word w :: ts =>
    if w = ['S'] then (args? p .separator ts).map (.check :: ·)
    else
      match numberWord? p w with
      | some n => (args? p .separator ts).map (.number n :: ·)
      | none => none
  | .inList s, .word w :: ts =>
    match hexPair? w with
    | some b => args? p (.inList (s ++ [b])) ts
    | none => none
  | .inList s, .closeList :: ts => (args? p .separator ts).map (.bytes s :: ·)
  | .separator, .comma :: ts => args? p .item ts
  | .separator, [] => some []
  | _, _ => none

/-- A byte operand, which must be 0..255. -/
def byteArg? (n : Nat) : Option Byte := if n ≤ 255 then some (BitVec.ofNat 8 n) else none

/-- A u16 operand, which must be 0..65535. -/
def u16Arg? (n : Nat) : Option U16 := if n ≤ 65535 then some (BitVec.ofNat 16 n) else none

/-- A zone operand, by its number (R6). -/
def zoneArg? : Nat → Option Zone
  | 0 => some .config
  | 1 => some .otp
  | 2 => some .data
  | _ => none

/-- The tail `[, S] [, [payload]]` of EXCH and XACT. -/
def tail? : List Arg → Option (Bool × List Byte)
  | [] => some (false, [])
  | [.check] => some (true, [])
  | [.bytes s] => some (false, s)
  | [.check, .bytes s] => some (true, s)
  | _ => none

/-- An operation with no operand. -/
def bareForm (i : Instr) : List Arg → Option Instr
  | [] => some i
  | _ => none

/-- An operation with a slot operand. -/
def slotForm (f : U16 → Instr) : List Arg → Option Instr
  | [.number n] => (u16Arg? n).map f
  | _ => none

/-- An operation with a byte list. -/
def listForm (f : List Byte → Instr) : List Arg → Option Instr
  | [.bytes s] => some (f s)
  | _ => none

/-- A zone read. -/
def zoneReadForm (f : Zone → U16 → Instr) : List Arg → Option Instr
  | [.number z, .number w] =>
    match zoneArg? z, u16Arg? w with
    | some z, some w => some (f z w)
    | _, _ => none
  | _ => none

/-- A zone write. Its byte list may have any length: R229 and R230 show only 4 and 32, and what a line with another does
is the model's choice, to send its EXCH with that list, as R223 says of NONCE (log entry 32). -/
def zoneWriteForm (f : Zone → U16 → List Byte → Instr) : List Arg → Option Instr
  | [.number z, .number w, .bytes s] =>
    match zoneArg? z, u16Arg? w with
    | some z, some w => some (f z w s)
    | _, _ => none
  | _ => none

/-- `SEND opcode, p1, p2 [, [payload]]`. -/
def sendForm : List Arg → Option Instr
  | .number o :: .number a :: .number b :: rest =>
    match byteArg? o, byteArg? a, u16Arg? b, tail? rest with
    | some o, some a, some b, some (false, s) => some (.send o a b s)
    | _, _, _, _ => none
  | _ => none

/-- `RECV n`. -/
def recvForm : List Arg → Option Instr
  | [.number n] => (byteArg? n).map .recv
  | _ => none

/-- `EXCH opcode, p1, p2, settle, n [, S] [, [payload]]`. -/
def exchForm : List Arg → Option Instr
  | .number o :: .number a :: .number b :: .number t :: .number n :: rest =>
    match byteArg? o, byteArg? a, u16Arg? b, u16Arg? t, byteArg? n, tail? rest with
    | some o, some a, some b, some t, some n, some (sc, s) => some (.exch o a b t n sc s)
    | _, _, _, _, _, _ => none
  | _ => none

/-- `XACT opcode, p1, p2, settle, n, drain [, S] [, [payload]]`. -/
def xactForm : List Arg → Option Instr
  | .number o :: .number a :: .number b :: .number t :: .number n :: .number d :: rest =>
    match byteArg? o, byteArg? a, u16Arg? b, u16Arg? t, byteArg? n, byteArg? d, tail? rest with
    | some o, some a, some b, some t, some n, some d, some (sc, s) => some (.xact o a b t n sc d s)
    | _, _, _, _, _, _, _ => none
  | _ => none

/-- The mnemonics with the form of their operands (R120, R122). -/
def operationForms : List (String × (List Arg → Option Instr)) :=
  [("CRC", listForm .crc), ("SEND", sendForm), ("RECV", recvForm), ("WAKE", bareForm .wake), ("IDLE", bareForm .idle),
   ("SLEEP", bareForm .sleep), ("WAIT", slotForm .wait), ("EXCH", exchForm), ("XACT", xactForm)] ++
  [("RANDOM", bareForm .random), ("GENKEY.CREATE", slotForm .genkeyCreate), ("GENKEY.PUBLIC", slotForm .genkeyPublic),
   ("NONCE", listForm .nonce), ("SIGN", slotForm .sign),
   ("VERIFY", listForm fun s => .verify (s.take 64) (s.drop 64)), ("READ4", zoneReadForm .read4),
   ("READ32", zoneReadForm .read32), ("WRITE4", zoneWriteForm .write4), ("WRITE32", zoneWriteForm .write32),
   ("LOCK.CONFIG", bareForm .lockConfig), ("LOCK.DATA", bareForm .lockData), ("INFO", bareForm .info)]

/-- The tokens without a best-effort mark at the end, and whether there was one (R121). -/
def splitMark (ts : List Token) : List Token × Bool :=
  if ts.getLast? = some .mark then (ts.dropLast, true) else (ts, false)

/-- One line of text (R120): nothing for a line that is blank or a comment. -/
def assembleLine (p : Config.Params) (text : List Char) : Except AsmError (Option Line) :=
  match splitMark (tokens text []) with
  | ([], false) => .ok none
  | (.word w :: ts, best) =>
    match operationForms.find? fun r => r.1.toList == w with
    | none => .error .unknownMnemonic
    | some (_, form) =>
      match args? p (if ts = [] then .separator else .item) ts with
      | none => .error .operands
      | some as =>
        match form as with
        | none => .error .operands
        | some i => .ok (some ⟨.assembly i, best⟩)
  | _ => .error .unknownMnemonic

/-- A whole listing, line by line; it is none of R120's where one of its lines is not. -/
def assemble (p : Config.Params) : List (List Char) → Except AsmError (List Line)
  | [] => .ok []
  | text :: rest =>
    match assembleLine p text, assemble p rest with
    | .ok (some l), .ok ls => .ok (l :: ls)
    | .ok none, .ok ls => .ok ls
    | .error e, _ => .error e
    | .ok _, .error e => .error e

end Sys2Proof.Machine
end

