-- ==== Sys2Proof/Tests/Slice0.lean ====
section
/-! SUPPORT. The model's own tests. Expected values come from 95_test_vectors.md (V-…, L2.x, P1 to P7) and from the
tables of the rules named; X1 is the test-only instantiation of 93_implementation_defined.md G1. -/

namespace Sys2Proof.Tests

-- One theorem after the other: many kernel evaluations at once would each hold a thread.
set_option Elab.async false

open Machine

/-! ## Helpers -/

/-- The reset state under X1. -/
def x1State : State := { State.reset with cfg := Config.x1 }

/-- `op` in progress in phase `p` under X1, with the transport's coming statuses and answers. -/
def during (op : Instr) (p : Phase) (statuses : List Byte) (answers : List (List Byte)) : State :=
  { x1State with curOp := some op, seqPhase := p, transport := ⟨statuses, answers, 0, true, true, true⟩ }

/-- What a test looks at: the next state, if there is one. -/
def after (o : Out) : Option State :=
  match o with
  | .next t => some t
  | _ => none

/-- `RESULT` and `SEQ_PHASE` of the next state. -/
def resultAfter (o : Out) : Option (Result × Phase) := (after o).map fun t => (t.result, t.seqPhase)

/-- The newest event of the next state. -/
def eventAfter (o : Out) : Option Event := (after o).bind fun t => t.events.head?

/-- The fault record of the next state. -/
def faultAfter (o : Out) : Option (Bool × Option FaultReason) := (after o).map fun t => (t.fault, t.faultReason)

/-- RANDOM as the EXCH it is under X1. -/
def x1Random : Instr := .exch 0x1B 0x00 0x0000 23 32 false []

/-! ## WellFormed refuses an ill-formed term for each check -/

theorem test_wf_crc_256_bytes : (Instr.crc (List.replicate 256 0)).wf = false := by decide +kernel
theorem test_wf_send_256_bytes : (Instr.send 0 0 0 (List.replicate 256 0)).wf = false := by decide +kernel
theorem test_wf_exch_256_bytes : (Instr.exch 0 0 0 0 0 false (List.replicate 256 0)).wf = false := by decide +kernel
theorem test_wf_exch_status_check_n4 : (Instr.exch 0x12 2 0 26 4 true [1, 2, 3, 4]).wf = false := by decide
theorem test_wf_xact_256_bytes : (Instr.xact 0 0 0 0 0 false 0 (List.replicate 256 0)).wf = false := by decide +kernel
theorem test_wf_xact_status_check_n0 : (Instr.xact 0x17 0x80 0 32 0 true 0 []).wf = false := by decide
theorem test_wf_reserved_core_code : (Instr.reserved 0x04 []).wf = false := by decide
theorem test_wf_wcmd_249_bytes : (Instr.wCmd 0 0 0 (List.replicate 249 0)).wf = false := by decide +kernel
theorem test_wf_wrsp_253_bytes : (Instr.wRsp (List.replicate 253 0)).wf = false := by decide +kernel
theorem test_wf_nonce_256_bytes : (Instr.nonce (List.replicate 256 0)).wf = false := by decide +kernel
theorem test_wf_verify_short_signature :
    (Instr.verify (List.replicate 63 0) (List.replicate 64 0)).wf = false := by decide
theorem test_wf_verify_long_key : (Instr.verify (List.replicate 64 0) (List.replicate 65 0)).wf = false := by decide
theorem test_wf_write4_3_bytes : (Instr.write4 .data 0 [1, 2, 3]).wf = false := by decide
theorem test_wf_write32_4_bytes : (Instr.write32 .data 0 [1, 2, 3, 4]).wf = false := by decide

/-- R101: a configuration whose idle word is the frame type is rejected. -/
theorem test_handle_rejects_equal_words :
    Config.Handle.make? { Config.x1Params with wordIdle := 0x03 } = none := by decide

/-! ## Decoding, words written out from L2.2 and L2.3 -/

theorem test_decode_crc : decode [0x01, 0x02, 0x04, 0x11] = .ok (.crc [0x04, 0x11]) := by decide
theorem test_decode_send :
    decode [0x02, 0x12, 0x02, 0x00, 0x00, 0x04, 0x01, 0x02, 0x03, 0x04] = .ok (.send 0x12 2 0 [1, 2, 3, 4]) := by decide
theorem test_decode_send_p2_little_endian :
    decode [0x02, 0x00, 0x00, 0x34, 0x12, 0x00] = .ok (.send 0 0 0x1234 []) := by decide
theorem test_decode_recv : decode [0x03, 0x20] = .ok (.recv 32) := by decide
theorem test_decode_wake : decode [0x04] = .ok .wake := by decide
theorem test_decode_idle : decode [0x05] = .ok .idle := by decide
theorem test_decode_sleep : decode [0x06] = .ok .sleep := by decide
theorem test_decode_wait : decode [0x07, 0x2C, 0x01] = .ok (.wait 300) := by decide
theorem test_decode_exch :
    decode [0x08, 0x12, 0x02, 0x00, 0x00, 0x1A, 0x00, 0x01, 0x01, 0x04, 0x01, 0x02, 0x03, 0x04] =
      .ok (.exch 0x12 2 0 26 1 true [1, 2, 3, 4]) := by decide
theorem test_decode_xact :
    decode [0x09, 0x1B, 0x00, 0x00, 0x00, 0x17, 0x00, 0x20, 0x00, 0x01, 0x00] =
      .ok (.xact 0x1B 0 0 23 32 false 1 []) := by decide
theorem test_decode_reserved : decode [0x0A] = .ok (.reserved 0x0A []) := by decide
theorem test_decode_wrong_length : decode [0x04, 0x00] = .error .wrongLength := by decide
theorem test_decode_reserved_flag :
    decode [0x08, 0x1B, 0x00, 0x00, 0x00, 0x17, 0x00, 0x20, 0x02, 0x00] = .error .reservedFlagBits := by decide
theorem test_decode_status_check_n4 :
    decode [0x08, 0x12, 0x02, 0x00, 0x00, 0x1A, 0x00, 0x04, 0x01, 0x00] = .error .statusCheckLength := by decide

theorem test_wire_wcmd :
    decodeWire Config.x1Params .toDevice 0x60 [0x03, 0x0B, 0x12, 0x02, 0x00, 0x00, 0x01, 0x02, 0x03, 0x04, 0x54, 0x8E] =
      .ok (.wCmd 0x12 2 0 [1, 2, 3, 4]) := by decide +kernel
theorem test_wire_wrsp :
    decodeWire Config.x1Params .toEngine 0x60 [0x07, 0x01, 0x23, 0x45, 0x67, 0x31, 0x6C] =
      .ok (.wRsp [0x01, 0x23, 0x45, 0x67]) := by decide +kernel
theorem test_wire_widle : decodeWire Config.x1Params .toDevice 0x60 [0x02] = .ok .wIdle := by decide
theorem test_wire_wsleep : decodeWire Config.x1Params .toDevice 0x60 [0x01] = .ok .wSleep := by decide
theorem test_wire_wwake : decodeWire Config.x1Params .toDevice 0x00 [] = .ok .wWake := by decide
/-- R33: the read of a W-RSP row by itself is no read of a RECV: at 21 attempts `ATTEMPTS` stays 21. -/
theorem test_wrsp_keeps_attempts :
    (after (exec (.wRsp [0x00]) { x1State with attempts := 21 })).map (·.attempts) = some 21 := by decide +kernel

theorem test_wire_bad_checksum :
    decodeWire Config.x1Params .toEngine 0x60 [0x04, 0x11, 0x33, 0x44] = .error .checksum := by decide +kernel

/-- The X1 descriptors of L2.2 decode to the EXCH that the pseudo-instruction stands for. -/
theorem test_pseudo_random :
    decode [0x08, 0x1B, 0x00, 0x00, 0x00, 0x17, 0x00, 0x20, 0x00, 0x00] = .ok (expand Config.x1Params .random) := by
  decide
theorem test_pseudo_genkey_create :
    decode [0x08, 0x40, 0x04, 0x00, 0x00, 0x73, 0x00, 0x40, 0x00, 0x00] =
      .ok (expand Config.x1Params (.genkeyCreate 0)) := by decide
theorem test_pseudo_genkey_public :
    decode [0x08, 0x40, 0x00, 0x00, 0x00, 0x73, 0x00, 0x40, 0x00, 0x00] =
      .ok (expand Config.x1Params (.genkeyPublic 0)) := by decide
theorem test_pseudo_nonce :
    decode ([0x08, 0x16, 0x03, 0x00, 0x00, 0x1D, 0x00, 0x01, 0x01, 0x20] ++ List.replicate 32 0) =
      .ok (expand Config.x1Params (.nonce (List.replicate 32 0))) := by decide
theorem test_pseudo_sign :
    decode [0x08, 0x41, 0x80, 0x00, 0x00, 0x32, 0x00, 0x40, 0x00, 0x00] = .ok (expand Config.x1Params (.sign 0)) := by
  decide
theorem test_pseudo_verify :
    decode ([0x08, 0x45, 0x02, 0x04, 0x00, 0x3A, 0x00, 0x01, 0x01, 0x80] ++ List.replicate 128 0) =
      .ok (expand Config.x1Params (.verify (List.replicate 64 0) (List.replicate 64 0))) := by decide +kernel
theorem test_pseudo_read4 :
    decode [0x08, 0x02, 0x00, 0x00, 0x00, 0x01, 0x00, 0x04, 0x00, 0x00] =
      .ok (expand Config.x1Params (.read4 .config 0)) := by decide
theorem test_pseudo_read32 :
    decode [0x08, 0x02, 0x80, 0x00, 0x00, 0x01, 0x00, 0x20, 0x00, 0x00] =
      .ok (expand Config.x1Params (.read32 .config 0)) := by decide
theorem test_pseudo_write4 :
    decode [0x08, 0x12, 0x02, 0x00, 0x00, 0x1A, 0x00, 0x01, 0x01, 0x04, 0x01, 0x02, 0x03, 0x04] =
      .ok (expand Config.x1Params (.write4 .data 0 [1, 2, 3, 4])) := by decide
theorem test_pseudo_write32 :
    decode ([0x08, 0x12, 0x82, 0x00, 0x00, 0x1A, 0x00, 0x01, 0x01, 0x20] ++ List.replicate 32 7) =
      .ok (expand Config.x1Params (.write32 .data 0 (List.replicate 32 7))) := by decide
theorem test_pseudo_lock_config :
    decode [0x08, 0x17, 0x80, 0x00, 0x00, 0x20, 0x00, 0x01, 0x01, 0x00] = .ok (expand Config.x1Params .lockConfig) := by
  decide
theorem test_pseudo_lock_data :
    decode [0x08, 0x17, 0x81, 0x00, 0x00, 0x20, 0x00, 0x01, 0x01, 0x00] = .ok (expand Config.x1Params .lockData) := by
  decide
theorem test_pseudo_info :
    decode [0x08, 0x30, 0x00, 0x00, 0x00, 0x01, 0x00, 0x04, 0x00, 0x00] = .ok (expand Config.x1Params .info) := by decide

/-- Table words: the operand bytes that the table gives no bits are zero. -/
theorem test_table_exch : decodeTableWord 8 0x08 = some (.exch 0 0 0 0 0 false []) := by decide
theorem test_table_wait_operand : decodeTableWord 24 0x012C07 = some (.wait 300) := by decide

/-! ## Assembler text (L2.2) -/

theorem test_assemble_xact :
    assembleLine Config.x1Params "XACT OP_LOCK, 0x80, 0, 32, 1, 0, S   ; lock".toList =
      .ok (some ⟨.assembly (.xact 0x17 0x80 0 32 1 true 0 []), false⟩) := by decide +kernel
theorem test_assemble_write4 :
    assembleLine Config.x1Params "WRITE4 2, 0, [01 02 03 04]".toList =
      .ok (some ⟨.assembly (.write4 .data 0 [1, 2, 3, 4]), false⟩) := by decide +kernel
theorem test_assemble_best_effort : assembleLine Config.x1Params "IDLE ?".toList = .ok (some ⟨.assembly .idle, true⟩) := by
  decide +kernel
theorem test_assemble_operand_range : assembleLine Config.x1Params "RECV 256".toList = .error .operands := by
  decide +kernel

/-! ## The Checksum Engine (L2.1) -/

theorem test_crc16_poly : crc16 [0x80] = 0x8005 := by decide
theorem test_crc16_trace : crc16 [0x01] = 0x8303 := by decide
theorem test_crc16_check_value : crc16 [0x31, 0x32, 0x33, 0x34, 0x35, 0x36, 0x37, 0x38, 0x39] = 0xBCDD := by
  decide +kernel
theorem test_crc16_order : (crc16 [0x12, 0x34], crc16 [0x34, 0x12]) = (0xB0EE, 0x69B3) := by decide +kernel

theorem test_crc_operation :
    (after (exec (.crc [0x04, 0x11]) (during (.crc [0x04, 0x11]) .crcRun [] []))).map
      (fun t => (t.crcOut, t.result, t.events)) =
    some (some 0x4333, ⟨true, some 0x00, some []⟩, []) := by decide +kernel

/-! ## Frames (L2.3) -/

theorem test_frame_generic : commandFrame 0xFF 0xFF 0xFFFF [] = [0x03, 0x07, 0xFF, 0xFF, 0xFF, 0xFF, 0x2A, 0x2D] := by
  decide +kernel
theorem test_frame_p2_little_endian : commandFrame 0 0 0x1234 [] = [0x03, 0x07, 0, 0, 0x34, 0x12, 0xB0, 0xC4] := by
  decide +kernel
theorem test_frame_read32 :
    (after (exec (.read32 .data 0) (during (expand Config.x1Params (.read32 .data 0)) .cmdTx [0] []))).map txBytes =
      some [0x03, 0x07, 0x02, 0x82, 0x00, 0x00, 0x0A, 0x28] := by decide +kernel
theorem test_frame_genkey_public :
    (after (exec (.genkeyPublic 2) (during (expand Config.x1Params (.genkeyPublic 2)) .cmdTx [0] []))).map txBytes =
      some [0x03, 0x07, 0x40, 0x00, 0x02, 0x00, 0x06, 0x85] := by decide +kernel
theorem test_frame_sign :
    eventAfter (exec (.sign 1) (during (expand Config.x1Params (.sign 1)) .cmdTx [0] [])) =
      some (.busWrite 0x60 [0x03, 0x07, 0x41, 0x80, 0x01, 0x00, 0x21, 0x85] 0) := by decide +kernel
theorem test_frame_lock_data :
    eventAfter (exec .lockData (during (expand Config.x1Params .lockData) .cmdTx [0] [])) =
      some (.busWrite 0x60 [0x03, 0x07, 0x17, 0x81, 0x00, 0x00, 0x3A, 0x07] 0) := by decide +kernel
theorem test_frame_nonce_tail :
    (commandFrame 0x16 0x03 0 (List.replicate 32 0)).drop 38 = [0xC7, 0xB8] := by decide +kernel

/-! ## SEND and RECV (L2.3, L2.4) -/

theorem test_send_ok :
    resultAfter (exec (.send 0x1B 0 0 []) (during (.send 0x1B 0 0 []) .cmdTx [0] [])) =
      some (⟨true, some 0x00, some []⟩, .ready) := by decide +kernel
theorem test_send_status_3 :
    (after (exec (.send 0x1B 0 0 []) (during (.send 0x1B 0 0 []) .cmdTx [3] []))).map
      (fun t => (t.result.err, t.txlen, t.events)) =
    some (some 0x10, 8, [.busWrite 0x60 [0x03, 0x07, 0x1B, 0, 0, 0, 0x24, 0xCD] 3]) := by decide +kernel

theorem test_recv_r1 :
    resultAfter (exec (.recv 1) (during (.recv 1) .respRx [] [[0x04, 0x00, 0x03, 0x40]])) =
      some (⟨true, some 0x00, some [0x00]⟩, .ready) := by decide +kernel
theorem test_recv_r6_length_first :
    resultAfter (exec (.recv 1) (during (.recv 1) .respRx [] [[0x05, 0x11, 0x33, 0x44]])) =
      some (⟨true, some 0x20, some []⟩, .ready) := by decide +kernel
theorem test_recv_r8_payload_bit :
    resultAfter (exec (.recv 1) (during (.recv 1) .respRx [] [[0x04, 0x10, 0x33, 0x43]])) =
      some (⟨true, some 0x21, some []⟩, .ready) := by decide +kernel
theorem test_recv_r11_contract :
    (after (exec (.recv 1) (during (.recv 1) .respRx [] [[0x04, 0x11, 0x33, 0x43, 0x00]]))).map
      (fun t => (t.faultReason, t.attempts, t.rxlen, t.events.length)) =
    some (some .transportContract, 1, 0, 1) := by decide +kernel

/-! ## WAKE, IDLE, SLEEP, WAIT (L2.5) -/

theorem test_wake_w2_status_ignored :
    eventAfter (exec .wake (during .wake .wakeTx [2] [])) = some (.busWrite 0x00 [] 2) := by decide
theorem test_wake_w3_wrong_code :
    resultAfter (exec .wake (during .wake .wakeRx [] [[0x04, 0x00, 0x03, 0x40]])) =
      some (⟨true, some 0x40, some []⟩, .ready) := by decide +kernel
theorem test_idle_w7 :
    (after (exec .idle (during .idle .idleTx [1] []))).map (fun t => (t.result.err, txBytes t, t.events)) =
      some (some 0x10, [0x02], [.busWrite 0x60 [0x02] 1]) := by decide
theorem test_sleep_w8 :
    (after (exec .sleep (during .sleep .sleepTx [3] []))).map (fun t => (t.result.err, txBytes t)) =
      some (some 0x10, [0x01]) := by decide
theorem test_wait_w10 :
    (after (exec (.wait 23) (during (.wait 23) .delay [] []))).map (fun t => (t.result.err, t.events, t.elapsedUs)) =
      some (some 0x00, [.delayMs 23], 23000) := by decide

/-! ## EXCH and XACT (L2.6) -/

theorem test_exch_e4_device_status :
    resultAfter (exec (.write4 .data 0 [1, 2, 3, 4])
      (during (expand Config.x1Params (.write4 .data 0 [1, 2, 3, 4])) .respRx [] [[0x04, 0x0F, 0x23, 0x42]])) =
    some (⟨true, some 0x30, some [0x0F]⟩, .ready) := by decide +kernel
theorem test_exch_e6_status_is_data :
    resultAfter (exec (.exch 0x30 0 0 1 1 false []) (during (.exch 0x30 0 0 1 1 false []) .respRx []
      [[0x04, 0x01, 0x00, 0xC3]])) = some (⟨true, some 0x00, some [0x01]⟩, .ready) := by decide +kernel
theorem test_exch_e7_status_check_n4 :
    faultAfter (exec (.exch 0x12 2 0 26 4 true [1, 2, 3, 4]) x1State) = some (true, some .hostProtocol) := by decide
theorem test_exch_e8_long_payload :
    faultAfter (exec (.exch 0 0 0 0 0 false (List.replicate 249 0)) x1State) = some (true, some .invariant) := by decide +kernel
theorem test_xact_x4_no_idle_after_status :
    (after (exec (.xact 0x17 0x80 0 32 1 true 0 []) (during (.xact 0x17 0x80 0 32 1 true 0 []) .respRx []
      [[0x04, 0x0F, 0x23, 0x42]]))).map (fun t => (t.result, t.seqPhase, t.events.length)) =
    some (⟨true, some 0x30, some [0x0F]⟩, .ready, 1) := by decide +kernel
theorem test_xact_x2_idle_status_ignored :
    (after (exec (.xact 0x02 0 0 1 4 false 0 [])
      { during (.xact 0x02 0 0 1 4 false 0 []) .idleTx [5] [] with
        rxbuf := bufferOf [0x07, 0x01, 0x23, 0x45, 0x67, 0x31, 0x6C], rxlen := 7 })).map
      (fun t => (t.result, t.events)) =
    some (⟨true, some 0x00, some [0x01, 0x23, 0x45, 0x67]⟩, [.busWrite 0x60 [0x02] 5]) := by decide +kernel

/-! ## Faults and the host's port (L2.7) -/

theorem test_reserved_f1 :
    (after (step { x1State with inbox := [.issue [0x0A]] })).map statusByte = some 0x02 := by decide
theorem test_busy_f5 :
    faultAfter (step { during .wake .wakeSettle [] [] with inbox := [.issue [0x01, 0x01, 0x01]] }) =
      some (true, some .hostProtocol) := by decide
theorem test_read_err_f7 :
    faultAfter (step { x1State with inbox := [.readReg .err] }) = some (true, some .hostProtocol) := by decide
theorem test_first_instruction_from_reset :
    (after (step (State.reset.withFetchWord 8 0x04))).map (fun t => (t.seqPhase, t.curOp)) =
      some (.wakeTx, some .wake) := by decide

/-! ## Sessions -/

theorem test_random_64_calls_twice :
    randomSession 64 = [⟨.assembly .wake, false⟩, ⟨.assembly .random, false⟩, ⟨.assembly .random, false⟩,
      ⟨.assembly (.wait 1), false⟩, ⟨.assembly .idle, true⟩] := by decide
/-- R121: the host keeps the data of each of two CRC lines. -/
theorem test_crc_lines_keep_their_data :
    (after (core.run 6 { x1State with
      inbox := [], host := ⟨[⟨.assembly (.crc [0x80]), false⟩, ⟨.raw [0x01, 0x00], false⟩], none, none, [], []⟩ })).map
      (fun t => t.host.results.map LineResult.crc) = some [some 0x8005, some 0x0000] := by decide +kernel

/-- R181: the sleep word puts an IDLE device to sleep whatever the write's status. -/
theorem test_sleep_word_status_3 :
    (after (exec .wSleep { during .wake .ready [3] [] with device := ⟨.idle, false, true, none, none, none⟩ })).map
      (fun t => t.device.devState) = some .asleep := by decide

/-- R198 (b): after LOCK.CONFIG the response length is 1, after a READ32 it is 32, after an unknown opcode none. -/
theorem test_response_lengths :
    responseLength Config.x1Params 0x17 0x80 0 [] = some 1 ∧ responseLength Config.x1Params 0x02 0x82 5 [] = some 32 ∧
      responseLength Config.x1Params 0xFF 0 0 [] = none := by decide +kernel

theorem test_read_zone_length_8 : readZone .config 0 8 = .error .argument := by decide

/-! ## Witnesses: the hypotheses of each statement can be met, clause by clause, at the bounds where there are any -/

open Safety

/-- The ready frame (R186). -/
def readyFrame : List Byte := [0x04, 0x11, 0x33, 0x43]

/-- A faulted engine, with an external action waiting. -/
def faultedState (inbox : List Input) : State :=
  { x1State with fault := true, faultReason := some .invariant, inbox := inbox }

/-- An EXCH with `STATUS_CHECK` and an XACT, for the witnesses. -/
def lockExch : Instr := .exch 0x17 0x81 0 32 1 true []
def lockXact : Instr := .xact 0x17 0x81 0 32 1 true 0 []

theorem witness_ready : Ready x1State := ⟨rfl, rfl⟩

theorem witness_invariant : EngineInv (during .wake .wakeRx [] [readyFrame]) where
  tx := ⟨by decide, rfl⟩
  rx := ⟨by decide, rfl⟩
  crc := rfl
  attempts := by decide
  attemptLeft := fun _ _ => by decide
  resultHeld := fun h => absurd h (by decide)
  busyInvalid := fun _ => rfl
  busInit := fun _ => rfl
  faultReason := rfl
  op := ⟨rfl, rfl, rfl, by decide⟩
  held := trivial

/-- StepKeepsTheInvariant, StepKeepsTheHistoryAllowed, StepKeepsTheConfiguration, StepAddsAtMostOneEvent,
PhasesFollowTheTable, UnfaultedEngineAlwaysSteps, EngineNeverReadsTheDevice: one step at the same state. -/
theorem witness_step : (after (step (during .wake .wakeRx [] [readyFrame]))).isSome = true ∧
    HistoryAllowed (during .wake .wakeRx [] [readyFrame]) ∧ (during .wake .wakeRx [] [readyFrame]).inbox = [] ∧
    (during .wake .wakeRx [] [readyFrame]).seqPhase ≠ .ready ∧ (during .wake .wakeRx [] [readyFrame]).fault = false ∧
    (during .wake .wakeRx [] [readyFrame]).curOp = some .wake :=
  ⟨by decide +kernel, fun _ h => by simp [during, x1State, State.reset] at h, rfl, by decide, rfl, rfl⟩

/-- OnlyResetClearsFault: a faulted engine still answers a register read. -/
theorem witness_OnlyResetClearsFault :
    (faultedState [.readReg .status]).fault = true ∧ (after (step (faultedState [.readReg .status]))).isSome = true ∧
      (faultedState [.readReg .status]).inbox.head? ≠ some .engineReset := by decide

theorem witness_FaultedEngineTakesNoStep :
    (faultedState []).fault = true ∧ (faultedState []).inbox = [] ∧
      (faultedState [.issue [0x04]]).inbox = .issue [0x04] :: [] := by decide

/-- EngineNeverReadsTheDevice, the second clause. -/
theorem witness_EngineNeverReadsTheDevice_fault : step (faultedState []) = .fault .engineFaulted := rfl

/-- ResultIsWrittenAtTwoPoints: each of its three outcomes happens. -/
theorem witness_ResultIsWrittenAtTwoPoints :
    (after (step { x1State with inbox := [.issue [0x05]] })).map (fun t => (t.curOp.isSome, t.result)) =
      some (true, ⟨false, none, none⟩) ∧
    (after (step (during .idle .idleTx [0] []))).map (fun t => (t.curOp, t.result)) =
      some (none, ⟨true, some 0x00, some []⟩) ∧
    (after (step (during .wake .wakeTx [0] []))).map (fun t => t.result) = some ⟨false, none, none⟩ := by decide

theorem witness_OnlyCrcWritesCrcOut :
    (after (step (during (.crc []) .crcRun [] []))).map (fun t => decide (t.crcOut ≠ none)) = some true := by decide

/-- SingleBitErrorsAreDetected: the first byte of the shortest frame and the last bit of the longest. -/
theorem witness_SingleBitErrorsAreDetected :
    ([] : List Byte).length ≤ 252 ∧ 0 < ([] : List Byte).length + 3 ∧
      (List.replicate 252 0#8).length ≤ 252 ∧ 254 < (List.replicate 252 0#8).length + 3 ∧ 7 < 8 := by decide +kernel

/-- SingleBitErrorsAreDetected, the RECV clause: the ready frame with bit 0 of its payload byte inverted. -/
theorem witness_SingleBitErrorsAreDetected_recv :
    InPhase (.recv 1) .respRx (during (.recv 1) .respRx [] [[0x04, 0x10, 0x33, 0x43]]) ∧
      (1#8).toNat = ([0x11#8] : List Byte).length ∧
      nextAnswer (during (.recv 1) .respRx [] [[0x04, 0x10, 0x33, 0x43]]) =
        (responseFrame [0x11#8]).set 1 ((responseFrame [0x11#8]).getD 1 0x00#8 ^^^ (0x01#8 <<< 0)) :=
  ⟨⟨rfl, rfl, rfl, by decide⟩, by decide +kernel⟩

theorem witness_ChecksumIsLinear : ([0x01, 0xFF] : List Byte).length = ([0x80, 0x02] : List Byte).length := by decide

theorem witness_CrcCompletes : InPhase (.crc [0x04]) .crcRun (during (.crc [0x04]) .crcRun [] []) :=
  ⟨rfl, rfl, rfl, by decide⟩

/-- HostOperationsAreAccepted: the largest operands. -/
theorem witness_HostOperationsAreAccepted :
    Ready x1State ∧ (List.replicate 255 0#8).length ≤ 255 ∧
      (List.replicate 248 0#8).length ≤ x1State.params.maxPayload ∧ (252#8).toNat ≤ 252 ∧
      (true = true → (1#8 : Byte) = 1#8) := ⟨witness_ready, by decide +kernel⟩

/-- OversizedOperandsTakeTheInvariantFault: the smallest and the largest operands beyond the limits. -/
theorem witness_OversizedOperandsTakeTheInvariantFault :
    Ready x1State ∧ x1State.params.maxPayload < (List.replicate 249 0#8).length ∧
      (List.replicate 255 0#8).length ≤ 255 ∧ 252 < (253#8).toNat := ⟨witness_ready, by decide +kernel⟩

theorem witness_BusyEngineTakesTheProtocolFault :
    (during .wake .wakeSettle [] []).fault = false ∧ (during .wake .wakeSettle [] []).seqPhase ≠ .ready ∧
      { during .wake .wakeSettle [] [] with inbox := [.issue [0x05]] }.inbox = .issue [0x05] :: [] := by decide

/-- MalformedDescriptorsTakeTheProtocolFault: the reserved codes' bounds, and each way to be malformed. -/
theorem witness_MalformedDescriptorsTakeTheProtocolFault :
    Ready { x1State with inbox := [.issue [0x0A]] } ∧ 0x0A ≤ (0x0A#8).toNat ∧ 0x0A ≤ (0xFF#8).toNat ∧
      decode [] = .error .empty ∧ decode [0x03] = .error .wrongLength := ⟨⟨rfl, rfl⟩, by decide⟩

theorem witness_StepRunsTheDecodedInstruction :
    Ready { x1State with inbox := [.issue [0x04]] } ∧ decode [0x04] = .ok .wake ∧
      InPhase .wake .wakeTx (during .wake .wakeTx [] []) ∧ (during .wake .wakeTx [] []).inbox = [] :=
  ⟨⟨rfl, rfl⟩, by decide, ⟨rfl, rfl, rfl, by decide⟩, rfl⟩

/-- ListingLinesRunTheirInstruction: a host operation and a pseudo-instruction. -/
theorem witness_ListingLinesRunTheirInstruction :
    Ready { x1State with host := ⟨[⟨.assembly .info, true⟩], none, none, [], []⟩ } ∧
      Instr.info.wf = true ∧ Instr.info.isPseudo = true ∧ Instr.wake.wf = true ∧ Instr.wake.isHostOp = true :=
  ⟨⟨rfl, rfl⟩, by decide⟩

theorem witness_SendCompletes : InPhase (.send 1 2 3 []) .cmdTx (during (.send 1 2 3 []) .cmdTx [0] []) :=
  ⟨rfl, rfl, rfl, by decide⟩

/-- RecvCompletesOnValidFrame: the smallest n. -/
theorem witness_RecvCompletesOnValidFrame :
    InPhase (.recv 0) .respRx (during (.recv 0) .respRx [] [responseFrame []]) ∧
      nextAnswer (during (.recv 0) .respRx [] [responseFrame []]) = responseFrame [] :=
  ⟨⟨rfl, rfl, rfl, by decide⟩, rfl⟩

/-- RecvCompletesOnValidFrame: the largest n. -/
theorem witness_RecvCompletesOnValidFrame_longest :
    InPhase (.recv 252) .respRx (during (.recv 252) .respRx [] [responseFrame (List.replicate 252 0)]) ∧
      (List.replicate 252 0#8).length = (252#8).toNat := ⟨⟨rfl, rfl, rfl, by decide⟩, by decide +kernel⟩

/-- RecvShortAttemptRetriesOrFails: an attempt with others left, and the last one. -/
theorem witness_RecvShortAttemptRetriesOrFails :
    (nextAnswer (during (.recv 1) .respRx [] [[0x04]])).length < (1#8).toNat + 3 ∧
      (during (.recv 1) .respRx [] [[0x04]]).attempts + 1 ≠ Config.x1.params.readAttempts ∧
      { during (.recv 1) .respRx [] [[0x04]] with attempts := 20 }.attempts + 1 = Config.x1.params.readAttempts := by
  decide

/-- RecvRejectsInvalidFrame: a wrong length byte, and a right one with a wrong checksum. -/
theorem witness_RecvRejectsInvalidFrame :
    (nextAnswer (during (.recv 1) .respRx [] [[0x05, 0x11, 0x33, 0x43]])).length = (1#8).toNat + 3 ∧
      ((nextAnswer (during (.recv 1) .respRx [] [[0x05, 0x11, 0x33, 0x43]])).getD 0 0#8).toNat ≠ (1#8).toNat + 3 ∧
      ([0x04, 0x11, 0x33, 0x44] : List Byte).length = (1#8).toNat + 3 ∧
      le16 0x33#8 0x44#8 ≠ crc16 (([0x04, 0x11, 0x33, 0x44] : List Byte).take 2) := by decide +kernel

theorem witness_RecvOverrunTakesTheContractFault :
    (1#8).toNat + 3 < (nextAnswer (during (.recv 1) .respRx [] [[0x04, 0x11, 0x33, 0x43, 0x00]])).length := by decide

/-- EveryReceivePhaseFailsAlike: the ready check of an XACT, answered in each of the five ways. -/
theorem witness_EveryReceivePhaseFailsAlike :
    InPhase lockXact .wakeRx (during lockXact .wakeRx [] [[0x04]]) ∧ receiveLength lockXact .wakeRx = some 4 ∧
      ([0x04] : List Byte).length < 4 ∧ 0 + 1 ≠ Config.x1.params.readAttempts ∧ 20 + 1 = Config.x1.params.readAttempts ∧
      (([0x05, 0x11, 0x33, 0x43] : List Byte).getD 0 0#8).toNat ≠ 4 ∧
      le16 0x33#8 0x44#8 ≠ crc16 (([0x04, 0x11, 0x33, 0x44] : List Byte).take 2) ∧
      4 < ([0x04, 0x11, 0x33, 0x43, 0x00] : List Byte).length :=
  ⟨⟨rfl, rfl, rfl, by decide⟩, rfl, by decide +kernel⟩

/-- RecvRetriesUntilTheValidFrame: the most short attempts there can be. -/
theorem witness_RecvRetriesUntilTheValidFrame :
    Alone (during (.recv 0) .respRx [] (List.replicate 20 [] ++ [responseFrame []])) ∧
      (List.replicate 20 ([] : List Byte)).length < Config.x1.params.readAttempts ∧
      ∀ b ∈ List.replicate 20 ([] : List Byte), b.length < (0#8).toNat + 3 := ⟨rfl, by decide⟩

theorem witness_RecvGivesUpAfterReadAttempts :
    (List.replicate 21 ([0x04] : List Byte)).length = Config.x1.params.readAttempts ∧
      ∀ b ∈ List.replicate 21 ([0x04] : List Byte), b.length < (0#8).toNat + 3 := by decide

theorem witness_RecvAcceptanceIsExact :
    Alone (during (.recv 0) .respRx [] (List.replicate 21 (responseFrame []))) ∧
      HostIdle (during (.recv 0) .respRx [] (List.replicate 21 (responseFrame []))) ∧
      (during (.recv 0) .respRx [] (List.replicate 21 (responseFrame []))).result.valid = false ∧
      Config.x1.params.readAttempts ≤ (List.replicate 21 (responseFrame [])).length :=
  ⟨rfl, ⟨rfl, rfl⟩, rfl, by decide +kernel⟩

/-- WakeCompletes, its three phases. -/
theorem witness_WakeCompletes :
    InPhase .wake .wakeTx (during .wake .wakeTx [0] []) ∧ InPhase .wake .wakeSettle (during .wake .wakeSettle [] []) ∧
      InPhase .wake .wakeRx (during .wake .wakeRx [] [readyFrame]) ∧
      nextAnswer (during .wake .wakeRx [] [readyFrame]) = [0x04#8, 0x11#8, 0x33#8, 0x43#8] :=
  ⟨⟨rfl, rfl, rfl, by decide⟩, ⟨rfl, rfl, rfl, by decide⟩, ⟨rfl, rfl, rfl, by decide⟩, rfl⟩

/-- WakeFailsWithReadiness: another code, a frame that does not validate, and the last short attempt. -/
theorem witness_WakeFailsWithReadiness :
    InPhase .wake .wakeRx (during .wake .wakeRx [] [responseFrame [0x00]]) ∧
      nextAnswer (during .wake .wakeRx [] [responseFrame [0x00]]) = responseFrame [0x00] ∧ (0x00#8 : Byte) ≠ 0x11#8 ∧
      validateFrame 4 [0x04, 0x11, 0x33, 0x44] = .error .integrityChecksum ∧
      ([0x04, 0x11, 0x33] : List Byte).length < 4 ∧ 20 + 1 = Config.x1.params.readAttempts :=
  ⟨⟨rfl, rfl, rfl, by decide⟩, rfl, by decide, by decide +kernel, by decide, rfl⟩

theorem witness_IdleAndSleepComplete :
    InPhase .idle .idleTx (during .idle .idleTx [0] []) ∧ InPhase .sleep .sleepTx (during .sleep .sleepTx [0] []) :=
  ⟨⟨rfl, rfl, rfl, by decide⟩, ⟨rfl, rfl, rfl, by decide⟩⟩

theorem witness_WaitCompletes : InPhase (.wait 0xFFFF) .delay (during (.wait 0xFFFF) .delay [] []) :=
  ⟨rfl, rfl, rfl, by decide⟩

/-- WakeRunsToReady: an UNKNOWN device and a sleeping one. -/
theorem witness_WakeRunsToReady :
    let s := { x1State with inbox := [.issue [0x04]], transport := ⟨[], [readyFrame], 0, true, true, true⟩ }
    Ready s ∧ s.inbox = [.issue [0x04#8]] ∧ s.device.devState = .unknown ∧
      (devicePowerOn s).device.devState = .asleep ∧
      s.transport.answers = [0x04#8, 0x11#8, 0x33#8, 0x43#8] :: [] := ⟨⟨rfl, rfl⟩, rfl, rfl, rfl, rfl⟩

/-- ExchCompletes: the three phases, both statuses, an accepted and a rejected status byte. -/
theorem witness_ExchCompletes :
    InPhase lockExch .cmdTx (during lockExch .cmdTx [0] []) ∧ nextStatus (during lockExch .cmdTx [0] []) = 0#8 ∧
      nextStatus (during lockExch .cmdTx [1] []) ≠ 0#8 ∧ InPhase lockExch .settle (during lockExch .settle [] []) ∧
      InPhase lockExch .respRx (during lockExch .respRx [] [responseFrame [0x0F]]) ∧
      nextAnswer (during lockExch .respRx [] [responseFrame [0x0F]]) = responseFrame [0x0F] ∧
      nextAnswer (during lockExch .respRx [] [responseFrame [0x00]]) = responseFrame [0x00] :=
  ⟨⟨rfl, rfl, rfl, by decide⟩, rfl, by decide, ⟨rfl, rfl, rfl, by decide⟩, ⟨rfl, rfl, rfl, by decide⟩, rfl, rfl⟩

theorem witness_PseudoInstructionsComplete :
    Instr.lockData.isPseudo = true ∧ expand Config.x1.params .lockData = lockExch ∧
      InPhase (expand Config.x1.params .lockData) .respRx (during lockExch .respRx [] [responseFrame [0x00]]) :=
  ⟨rfl, rfl, ⟨rfl, rfl, rfl, by decide⟩⟩

/-- XactCompletes: each of the eight phases, with the answer or the status it asks for. -/
theorem witness_XactCompletes :
    (∀ p ∈ phasesOf lockXact, InPhase lockXact p (during lockXact p [0] [])) ∧ (phasesOf lockXact).length = 8 ∧
      nextStatus (during lockXact .cmdTx [0] []) = 0#8 ∧
      InPhase lockXact .wakeRx (during lockXact .wakeRx [] [readyFrame]) ∧
      nextAnswer (during lockXact .wakeRx [] [readyFrame]) = [0x04#8, 0x11#8, 0x33#8, 0x43#8] ∧
      InPhase lockXact .respRx (during lockXact .respRx [] [responseFrame [0x00]]) ∧
      nextAnswer (during lockXact .respRx [] [responseFrame [0x00]]) = responseFrame [0x00] ∧
      InPhase lockXact .idleTx { during lockXact .idleTx [0] [] with rxbuf := bufferOf (responseFrame [0x00]) } := by
  refine ⟨fun p hp => ⟨rfl, rfl, rfl, ?_⟩, rfl, rfl, ⟨rfl, rfl, rfl, by decide⟩, rfl, ⟨rfl, rfl, rfl, by decide⟩, rfl,
    ⟨rfl, rfl, rfl, by decide⟩⟩
  revert p; decide

theorem witness_XactStopsAtItsFailure :
    InPhase lockXact .wakeRx (during lockXact .wakeRx [] [responseFrame [0x00]]) ∧
      ([0x00#8] : List Byte) ≠ [0x11#8] ∧ InPhase lockXact .cmdTx (during lockXact .cmdTx [1] []) ∧
      nextStatus (during lockXact .cmdTx [1] []) ≠ 0#8 ∧
      InPhase lockXact .respRx (during lockXact .respRx [] [responseFrame [0x0F]]) ∧ ([0x0F#8] : List Byte) ≠ [0x00#8] :=
  ⟨⟨rfl, rfl, rfl, by decide⟩, by decide, ⟨rfl, rfl, rfl, by decide⟩, by decide, ⟨rfl, rfl, rfl, by decide⟩, by decide⟩

/-- XactRunsToCompletion, and that it does run so. -/
theorem witness_XactRunsToCompletion :
    let s := { x1State with
      inbox := [.issue (encode Config.x1.params lockXact)]
      transport := ⟨[7, 0, 5], [readyFrame, responseFrame [0x00]], 0, true, true, true⟩ }
    Ready s ∧ (([] : List Byte).length ≤ s.params.maxPayload) ∧
      (after (run 9 s)).map (fun t => (t.result, t.events.length)) = some (⟨true, some 0x00, some [0x00]⟩, 8) :=
  ⟨⟨rfl, rfl⟩, by decide, by decide +kernel⟩

/-- WireFormatsComplete: the longest payloads within the bounds and the shortest beyond them. -/
theorem witness_WireFormatsComplete :
    x1State.fault = false ∧ (List.replicate 252 0#8).length ≤ 252 ∧ 252 < (List.replicate 253 0#8).length ∧
      (List.replicate 248 0#8).length ≤ x1State.params.maxPayload ∧
      x1State.params.maxPayload < (List.replicate 249 0#8).length := by decide +kernel

/-- The four statements about encodings: an instruction of each kind they speak of. -/
theorem witness_encodings :
    lockXact.wf = true ∧ lockXact.isHostOp = true ∧ (Instr.reserved 0xFF [1]).wf = true ∧
      decode [0x04] = .ok .wake ∧ Instr.random.wf = true ∧ Instr.random.isPseudo = true ∧
      (Instr.wCmd 1 2 3 (List.replicate 248 0)).wf = true ∧ Instr.wIdle.isWire = true ∧
      Instr.wWake.wf = true ∧ (Instr.wRsp (List.replicate 252 0)).wf = true := by decide +kernel

/-- RegisterReadsDeliverTheView: a register that holds a value and one that does not. -/
theorem witness_RegisterReadsDeliverTheView :
    { x1State with inbox := [.readReg .phase] }.inbox = .readReg .phase :: [] ∧
      regValue x1State .phase = some (.nibble 0) ∧ regValue x1State .err = none ∧ x1State.fault = false := by decide

/-- RegisterReadsDeliverTheView: each of the clauses about a register that holds a value. -/
theorem witness_RegisterReadsDeliverTheView_held :
    let s := { x1State with result := ⟨true, some 0x30, some [0x0F]⟩, crcOut := some 0x4333, seqPhase := .delay }
    s.result.valid = true ∧ s.result.err = some 0x30 ∧ s.result.data = some [0x0F] ∧ s.crcOut = some 0x4333 ∧
      (s.seqPhase, 0xB#4) ∈ phaseCodes := by decide

/-- ProgramStopsAtItsFirstFailure: its three clauses. -/
theorem witness_ProgramStopsAtItsFirstFailure :
    let s := { x1State with result := ⟨true, some 0x10, some []⟩, host := ⟨[], some ⟨.assembly .idle, false⟩, none, [], []⟩ }
    let t := { x1State with host := ⟨[], none, some 0x10, [], []⟩ }
    Ready s ∧ s.inbox = [] ∧ s.host.inFlight = some ⟨.assembly .idle, false⟩ ∧ Ready t ∧ t.host.stopped = some 0x10 ∧ HostIdle x1State ∧
      x1State.host.stopped = none := ⟨⟨rfl, rfl⟩, rfl, rfl, ⟨rfl, rfl⟩, rfl, ⟨rfl, rfl⟩, rfl⟩

/-- DeviceFollowsItsTable: a command whose settle minimum has just passed, and one that has not. -/
theorem witness_DeviceFollowsItsTable :
    Device.settled? 50000 ⟨.executing, false, false, some 0, some 50, some 64⟩ = some true ∧
      Device.settled? 49999 ⟨.executing, false, false, some 0, some 50, some 64⟩ = some false ∧
      Device.poweredOn.devState = .asleep ∧
      (∀ r ∈ commandMinimums Config.x1Params, ∀ q ∈ commandMinimums Config.x1Params, q.1 = r.1 → q.2 ≤ r.2) ∧
      ∀ r ∈ commandMinimums Config.x1Params, r.1 ≠ 0xFF := by decide

/-- RandomOutputIsTheFirstBytes: no byte, and one more than a block. -/
theorem witness_RandomOutputIsTheFirstBytes :
    randomCalls 0 = 0 ∧ randomCalls 32 = 1 ∧ randomCalls 33 = 2 ∧
      ∀ b ∈ [List.replicate 32 0#8, List.replicate 32 1#8], b.length = 32 := by decide

theorem witness_HostWritesTakeTheProtocolFault :
    let s := { x1State with inbox := [.writeReg .status [0xFF]] }
    s.fault = false ∧ s.inbox = .writeReg .status [0xFF] :: [] := ⟨rfl, rfl⟩

theorem witness_BusInitIsOneEvent : { x1State with inbox := [.busInit] }.inbox = .busInit :: [] := rfl

/-- R293, R198 (g): of a WAKE issued before `BusInit` nothing is premised, though `BusInit` comes while it is in progress. -/
theorem test_wake_issued_before_busInit :
    let s := { during .wake .wakeSettle [] [] with transport := ⟨[], [], 0, false, false, false⟩, inbox := [.busInit] }
    (after (step s)).map (fun t => (t.transport.initDone, t.transport.issuedAfterInit, t.transport.sentAfterInit)) =
      some (true, false, false) := by decide +kernel

/-- A device that is IDLE with its ready response pending, and one that has executed INFO for its settle minimum. -/
def wokenDevice : Device := ⟨.idle, false, true, none, none, none⟩
def infoDevice : Device := ⟨.executing, false, false, some 0, some 1, some 4⟩

/-- PremisedAnswersSucceedOrReportStatus, the ready check: of WAKE, and of XACT. -/
theorem witness_PremisedAnswersSucceedOrReportStatus_ready :
    let s := { during .wake .wakeRx [] [readyFrame] with device := wokenDevice }
    let x := { during lockXact .wakeRx [] [readyFrame] with device := wokenDevice }
    AfterBusInit s ∧ ReadyPremise s ∧ s.device.devState = .idle ∧ s.device.readyPending = true ∧
      InPhase .wake .wakeRx s ∧ ReadyPremise x ∧ InPhase lockXact .wakeRx x :=
  ⟨⟨rfl, rfl⟩, fun _ _ _ _ => rfl, rfl, rfl, ⟨rfl, rfl, rfl, by decide⟩, fun _ _ _ _ => rfl, ⟨rfl, rfl, rfl, by decide⟩⟩

/-- PremisedAnswersSucceedOrReportStatus, the response of a command profile. -/
theorem witness_PremisedAnswersSucceedOrReportStatus_response :
    let s := { during (expand Config.x1Params .info) .respRx [] [responseFrame [0, 0, 0x50, 0]] with
      device := infoDevice, elapsedUs := 1000 }
    AfterBusInit s ∧ ResponsePremise s ∧ s.device.devState = .executing ∧
      s.device.settled? s.elapsedUs = some true ∧ s.device.respLength = some (4#8).toNat ∧
      InPhase (expand s.params .info) .respRx s := by
  refine ⟨⟨rfl, rfl⟩, fun n _ _ _ hn _ => ⟨[0, 0, 0x50, 0], ?_, rfl⟩, rfl, by decide, rfl, ⟨rfl, rfl, rfl, by decide⟩⟩
  cases hn; rfl

/-- ProfilesCarryTheirMinimumAndLength: the nine opcodes of X1 differ. -/
theorem witness_ProfilesCarryTheirMinimumAndLength :
    ((commandMinimums Config.x1.params).map Prod.fst).Nodup ∧ (Instr.nonce (List.replicate 32 0)).wf = true ∧
      (List.replicate 32 0#8).length = 32 := by decide

end Sys2Proof.Tests
end

section
/-! PROOF. What one step can do to the engine, said once. The host's and the device's own actions touch none of R20's
fields (`SameEngine`); every row of R197's table is a bus or timer event (`PhaseEvent`), which touches neither the phase
nor the result, followed by one way of ending the step (`PhaseEnd`). -/

namespace Sys2Proof.Machine

open Safety

/-! ## The configuration's bounds (R7) -/

theorem maxPayload_le (c : Config.Handle) : c.params.maxPayload ≤ 248 := by
  have h := c.admissible
  simp only [Config.Params.wf, Bool.and_eq_true, decide_eq_true_eq] at h
  omega

theorem readAttempts_pos (c : Config.Handle) : 0 < c.params.readAttempts := by
  have h := c.admissible
  simp only [Config.Params.wf, Bool.and_eq_true, decide_eq_true_eq] at h
  have : Config.READ_RETRIES = 20 := rfl
  omega

/-! ## What leaves the engine alone -/

/-- The engine of `t` is that of `s`: R20's fields, the configuration, and the notes on `BusInit`, which may have come
since (R293). The device, the history, the time, the host and the waiting actions are free. -/
structure SameEngine (s t : State) : Prop where
  seqPhase : t.seqPhase = s.seqPhase
  curOp : t.curOp = s.curOp
  crcAcc : t.crcAcc = s.crcAcc
  crcBit : t.crcBit = s.crcBit
  crcOut : t.crcOut = s.crcOut
  txbuf : t.txbuf = s.txbuf
  txlen : t.txlen = s.txlen
  rxbuf : t.rxbuf = s.rxbuf
  rxlen : t.rxlen = s.rxlen
  attempts : t.attempts = s.attempts
  result : t.result = s.result
  fault : t.fault = s.fault
  faultReason : t.faultReason = s.faultReason
  cfg : t.cfg = s.cfg
  issuedAfterInit : t.transport.issuedAfterInit = s.transport.issuedAfterInit
  sentAfterInit : t.transport.sentAfterInit = s.transport.sentAfterInit
  initDone : s.transport.initDone = true → t.transport.initDone = true

/-- The agents around the engine, the history and the time are no part of it. -/
theorem sameEngine_outside (s : State) (d : Device) (us : Nat) (ev : List Event) (h : HostAgent) (l : List Input) :
    SameEngine s { s with device := d, elapsedUs := us, events := ev, host := h, inbox := l } :=
  ⟨rfl, rfl, rfl, rfl, rfl, rfl, rfl, rfl, rfl, rfl, rfl, rfl, rfl, rfl, rfl, rfl, id⟩

theorem sameEngine_busInit (s : State) : SameEngine s (busInit s) :=
  ⟨rfl, rfl, rfl, rfl, rfl, rfl, rfl, rfl, rfl, rfl, rfl, rfl, rfl, rfl, rfl, rfl, fun _ => rfl⟩

theorem SameEngine.trans {s t u : State} (h : SameEngine s t) (k : SameEngine t u) : SameEngine s u :=
  ⟨k.seqPhase.trans h.seqPhase, k.curOp.trans h.curOp, k.crcAcc.trans h.crcAcc, k.crcBit.trans h.crcBit,
    k.crcOut.trans h.crcOut, k.txbuf.trans h.txbuf, k.txlen.trans h.txlen, k.rxbuf.trans h.rxbuf,
    k.rxlen.trans h.rxlen, k.attempts.trans h.attempts, k.result.trans h.result, k.fault.trans h.fault,
    k.faultReason.trans h.faultReason, k.cfg.trans h.cfg, k.issuedAfterInit.trans h.issuedAfterInit,
    k.sentAfterInit.trans h.sentAfterInit, fun hi => k.initDone (h.initDone hi)⟩

theorem sameEngine_popInbox (s : State) : SameEngine s (popInbox s) := sameEngine_outside s _ _ _ _ _

/-- What the engine itself does in a step: a move on a host operation, or the bus event of a wire format, should one be
the operation in progress. -/
def EngineAct (s t : State) : Prop :=
  EngineMove s t ∨ (s.seqPhase ≠ .ready ∧ ∃ op, s.curOp = some op ∧ wireStep op s = some t)

/-- The engine's turn leaves the engine alone or is an act of it. -/
theorem engineTurn_engine (s t : State) (h : engineTurn s = .next t) :
    SameEngine s t ∨ (s.fault = false ∧ ∃ u, SameEngine s u ∧ EngineAct u t) := by
  have hs : SameEngine s s := sameEngine_outside s _ _ _ _ _
  obtain ⟨hf, ⟨_, rfl⟩ | ⟨_, l, _, rfl⟩ | ⟨_, l, rest, _, hm⟩ | ⟨hp, op, ho, hm | hw⟩⟩ := engineTurn_moves s t h
  · exact .inl hs
  · exact .inl (sameEngine_outside s _ _ _ _ _)
  · exact .inr ⟨hf, takeLine l rest s, sameEngine_outside s _ _ _ _ _, .inl hm⟩
  · exact .inr ⟨hf, s, hs, .inl hm⟩
  · exact .inr ⟨hf, s, hs, .inr ⟨hp, op, ho, hw⟩⟩

/-- What one step does to the engine: it is reset, or left alone, or it is not faulted and acts. -/
theorem step_engine (s t : State) (h : step s = .next t) :
    (s.inbox.head? = some .engineReset ∧ t = engineReset (popInbox s)) ∨ SameEngine s t ∨
      (s.fault = false ∧ ∃ u, SameEngine s u ∧ EngineAct u t) := by
  have hpop := sameEngine_popInbox s
  rcases step_moves s t h with ⟨_, ht⟩ | ⟨_, _, ht⟩ | ⟨_, _, _, hf, hm⟩ | ⟨_, _, _, rfl⟩ | ⟨_, _, _, _, rfl⟩ |
    ⟨hf, rfl⟩ | ⟨_, _, rfl⟩ | ⟨_, hi, rfl⟩ | ⟨_, _, rfl⟩ | ⟨_, _, rfl⟩
  · exact .inr (engineTurn_engine s t ht)
  · rcases engineTurn_engine _ t ht with hu | ⟨hf, u, hu, ha⟩
    · exact .inr (.inl (hpop.trans hu))
    · exact .inr (.inr ⟨hf, u, hpop.trans hu, ha⟩)
  · exact .inr (.inr ⟨hf, popInbox s, hpop, .inl hm⟩)
  · exact .inr (.inl (sameEngine_outside s _ _ _ _ _))
  · exact .inr (.inl (sameEngine_outside s _ _ _ _ _))
  · exact .inr (.inr ⟨hf, popInbox s, hpop, .inl (.inl ⟨_, rfl⟩)⟩)
  · exact .inr (.inl (hpop.trans (sameEngine_busInit _)))
  · exact .inl ⟨by rw [hi]; rfl, rfl⟩
  · exact .inr (.inl (sameEngine_outside s _ _ _ _ _))
  · exact .inr (.inl (sameEngine_outside s _ _ _ _ _))

/-- The engine's part of the state decides whether the invariant holds. -/
theorem SameEngine.engineInv {s t : State} (h : SameEngine s t) (hs : EngineInv s) : EngineInv t where
  tx := by rw [h.txlen, h.txbuf]; exact hs.tx
  rx := by rw [h.rxlen, h.rxbuf]; exact hs.rx
  crc := by rw [h.crcBit]; exact hs.crc
  attempts := by rw [h.attempts, State.params, h.cfg]; exact hs.attempts
  attemptLeft := by rw [h.fault, h.seqPhase, h.attempts, State.params, h.cfg]; exact hs.attemptLeft
  resultHeld := by rw [h.result]; exact hs.resultHeld
  busyInvalid := by rw [h.seqPhase, h.result]; exact hs.busyInvalid
  busInit := by rw [h.issuedAfterInit, h.sentAfterInit]; exact fun hi => h.initDone (hs.busInit hi)
  faultReason := by rw [h.fault, h.faultReason]; exact hs.faultReason
  op := by have := hs.op; unfold opConsistent at *; rw [h.curOp, h.seqPhase, State.params, h.cfg]; exact this
  held := by have := hs.held; unfold xactHolds at *; rw [h.curOp, h.seqPhase, h.rxlen]; exact this

/-! ## The bus and timer events of R197's rows -/

/-- An event, or a use of the Checksum Engine, leaves what controls the engine and what the host sees of it. -/
structure KeepsControl (s u : State) : Prop where
  seqPhase : u.seqPhase = s.seqPhase
  curOp : u.curOp = s.curOp
  crcOut : u.crcOut = s.crcOut
  result : u.result = s.result
  fault : u.fault = s.fault
  faultReason : u.faultReason = s.faultReason
  cfg : u.cfg = s.cfg

theorem KeepsControl.trans {s t u : State} (h : KeepsControl s t) (k : KeepsControl t u) : KeepsControl s u :=
  ⟨k.seqPhase.trans h.seqPhase, k.curOp.trans h.curOp, k.crcOut.trans h.crcOut, k.result.trans h.result,
    k.fault.trans h.fault, k.faultReason.trans h.faultReason, k.cfg.trans h.cfg⟩

/-- What the bytes of a read do concerns the buffer, the checksum unit and the device alone. -/
theorem storeBytes_keepsControl (k : Nat) (bytes : List Byte) (s : State) : KeepsControl s (storeBytes k bytes s) := by
  unfold storeBytes acceptBytes checkBytes
  repeat' split
  all_goals exact ⟨rfl, rfl, rfl, rfl, rfl, rfl, rfl⟩

theorem receiveBytes_keepsControl (k : Nat) (bytes : List Byte) (s : State) :
    KeepsControl s (receiveBytes k bytes (takeAnswer s)) := by
  have hcount : KeepsControl s (countAttempt k bytes (takeAnswer s)) := ⟨rfl, rfl, rfl, rfl, rfl, rfl, rfl⟩
  exact hcount.trans (storeBytes_keepsControl k bytes _)

/-- A wire format changes no control field. -/
theorem wireStep_keepsControl (i : Instr) (s t : State) (h : wireStep i s = some t) : KeepsControl s t := by
  unfold wireStep at h
  split at h
  · split at h <;> cases h
    exact ⟨rfl, rfl, rfl, rfl, rfl, rfl, rfl⟩
  · split at h <;> cases h
    rename_i data _
    have hrecord : KeepsControl s (recordRead s.params.devAddr (data.length + 3) (responseFrame data) s) :=
      ⟨rfl, rfl, rfl, rfl, rfl, rfl, rfl⟩
    exact hrecord.trans (storeBytes_keepsControl _ _ _)
  · cases h; exact ⟨rfl, rfl, rfl, rfl, rfl, rfl, rfl⟩
  · cases h; exact ⟨rfl, rfl, rfl, rfl, rfl, rfl, rfl⟩
  · cases h; exact ⟨rfl, rfl, rfl, rfl, rfl, rfl, rfl⟩
  · cases h

/-- A wire format is no host operation. -/
theorem isHostOp_of_wireStep (i : Instr) (s t : State) (h : wireStep i s = some t) : i.isHostOp = false := by
  unfold wireStep at h
  split at h
  case h_6 => cases h
  all_goals rfl

/-- The event of a row of R197: what the step of `op` in phase `p` does before it ends. -/
inductive PhaseEvent (op : Instr) (p : Phase) (s : State) : State → Prop where
  /-- The computation of CRC_RUN (R134). -/
  | crc (bytes : List Byte) : PhaseEvent op p s (runCrc bytes s)
  | wake : PhaseEvent op p s (transmitWake s)
  | idle : PhaseEvent op p s (transmitIdle s)
  | sleep : PhaseEvent op p s (transmitSleep s)
  /-- A command frame, of the operation's payload (R114, R151). -/
  | command (opcode p1 : Byte) (p2 : U16) (payload : List Byte)
      (within : ∀ q, withinLimits q op = true → payload.length ≤ q.maxPayload) :
      PhaseEvent op p s (transmitCommand opcode p1 p2 payload s)
  /-- One attempt of a read, in a receive phase (R155). -/
  | read (k : Nat) (receives : receiveLength op p = some k) :
      PhaseEvent op p s (receiveBytes k (nextAnswer s) (takeAnswer s))
  | delayMs (t : Nat) : PhaseEvent op p s (delayMs t s)
  /-- The wake settle, which the device notes (R181, R185). -/
  | wakeSettle (t : Nat) (d : Device) : PhaseEvent op p s { delayUs t s with device := d }

theorem PhaseEvent.keepsControl {op : Instr} {p : Phase} {s u : State} (h : PhaseEvent op p s u) :
    KeepsControl s u := by
  cases h
  case read k _ => exact receiveBytes_keepsControl k _ s
  all_goals exact ⟨rfl, rfl, rfl, rfl, rfl, rfl, rfl⟩

/-! ## How the step of a phase ends -/

/-- The end of the step of `op` in phase `p`, after its event has given `u`: a fault, the outcome, or the next phase. -/
inductive PhaseEnd (op : Instr) (p : Phase) (u : State) : State → Prop where
  /-- The transport returned too many bytes (R156). -/
  | overrun (k : Nat) (receives : receiveLength op p = some k) : PhaseEnd op p u (raiseFault .transportContract u)
  /-- A short attempt with another one left (R155). -/
  | again (k : Nat) (receives : receiveLength op p = some k) (left : u.attempts ≠ u.params.readAttempts) :
      PhaseEnd op p u u
  /-- The outcome is recorded (R26, R270). -/
  | outcome (c : ErrCode) (data : List Byte) (engine : c.isEngine = true)
      (short : ∀ q, withinLimits q op = true → data.length ≤ 252) : PhaseEnd op p u (finish c data u)
  /-- The outcome of CRC, with its checksum (R134). -/
  | crcOutcome (bytes : List Byte) (isCrc : op = .crc bytes) :
      PhaseEnd op p u (finish .ok [] (setCrcOut (crc16 bytes) u))
  /-- A phase that receives nothing is entered, before the response is there. -/
  | advance (q : Phase) (early : q ∈ [Phase.wakeSettle, .cmdTx, .settle]) (allowed : q ∈ nextPhases op p) :
      PhaseEnd op p u (setPhase q u)
  /-- DRAIN is entered with the response in `RXBUF` (R191). -/
  | toDrain (holds : receiveLength op .respRx = some u.rxlen) (allowed : .drain ∈ nextPhases op p) :
      PhaseEnd op p u (setPhase .drain u)
  /-- The final idle is entered from DRAIN (R191). -/
  | toIdle (drained : p = .drain) (allowed : .idleTx ∈ nextPhases op p) : PhaseEnd op p u (setPhase .idleTx u)
  /-- A receive phase is entered (R155). -/
  | toReceive (q : Phase) (allowed : q ∈ nextPhases op p) (receives : q = .wakeRx ∨ q = .respRx) :
      PhaseEnd op p u (enterRecv q u)

/-- An operation within the limits asks for 3 to 255 bytes (R69, R112, R161). -/
theorem receiveLength_bounds (q : Config.Params) (op : Instr) (p : Phase) (k : Nat) (hl : withinLimits q op = true)
    (hk : receiveLength op p = some k) : 3 ≤ k ∧ k ≤ 255 := by
  have hmax : Config.MAX_EXPECTED = 252 := rfl
  unfold receiveLength at hk
  split at hk <;> cases hk
  all_goals
    simp only [withinLimits, Bool.and_eq_true, decide_eq_true_eq] at hl
    omega

/-- A payload that validates is what lies between the length byte and the checksum (R160). -/
theorem length_of_validateFrame (k : Nat) (s d : List Byte) (h : validateFrame k s = .ok d) : d.length ≤ k - 3 := by
  obtain ⟨_, _, rfl⟩ := (validateFrame_ok_iff k s d).1 h
  exact List.length_take_le ..

/-- A frame fails validation with one of the integrity codes (R268). -/
theorem isEngine_of_validateFrame (k : Nat) (s : List Byte) (c : ErrCode) (h : validateFrame k s = .error c) :
    c.isEngine = true := by
  unfold validateFrame at h
  split at h
  · split at h
    · cases h
    · cases h; rfl
  · cases h; rfl

theorem length_memRead (m : Memory) : ∀ (n i : Nat) (s : List Byte), memRead m i n = some s → s.length = n := by
  intro n
  induction n with
  | zero => intro i s h; cases h; rfl
  | succ n ih =>
    intro i s h
    rw [memRead] at h
    split at h
    · rename_i b s' _ hs
      cases h
      simp [ih _ _ hs]
    · cases h

/-- What XACT delivers has at most the n bytes of its response (R191). -/
theorem length_rxPayload_le (n : Nat) (s : State) : (rxPayload n s).length ≤ n := by
  unfold rxPayload
  cases h : memRead s.rxbuf 1 n with
  | none => simp
  | some d => simp [length_memRead _ _ _ _ h]

/-- A full-length attempt leaves its bytes in `RXBUF` (R155). -/
theorem receiveBytes_full_rxlen (k : Nat) (bytes : List Byte) (s : State) (h : bytes.length = k) :
    (receiveBytes k bytes s).rxlen = k := by
  subst h; rw [receiveBytes_full]

/-- EXCH within the limits carries at most `MAX_PAYLOAD` bytes (R114). -/
theorem payload_le_of_exch {q : Config.Params} {opcode p1 : Byte} {p2 settle : U16} {n : Byte} {sc : Bool}
    {payload : List Byte} (h : withinLimits q (.exch opcode p1 p2 settle n sc payload) = true) :
    payload.length ≤ q.maxPayload := by
  simp only [withinLimits, Bool.and_eq_true, decide_eq_true_eq] at h
  exact h.1

/-- XACT within the limits carries at most `MAX_PAYLOAD` bytes (R114). -/
theorem payload_le_of_xact {q : Config.Params} {opcode p1 : Byte} {p2 settle : U16} {n : Byte} {sc : Bool}
    {drain : Byte} {payload : List Byte} (h : withinLimits q (.xact opcode p1 p2 settle n sc drain payload) = true) :
    payload.length ≤ q.maxPayload := by
  simp only [withinLimits, Bool.and_eq_true, decide_eq_true_eq] at h
  exact h.1

section Split

variable {op : Instr} {p : Phase} {s : State}

/-- An attempt of `frame_recv` is a read and an end, where the operation's continuations are ends. -/
theorem recvStep_split {k : Nat} {onFail : ErrCode → State → State} {onPayload : List Byte → State → State}
    (hk : receiveLength op p = some k)
    (hfail : ∀ c u, c.isEngine = true → PhaseEnd op p u (onFail c u))
    (hload : ∀ d u, d.length ≤ k - 3 → u.rxlen = k → PhaseEnd op p u (onPayload d u)) :
    ∃ u, PhaseEvent op p s u ∧ PhaseEnd op p u (recvStep k onFail onPayload s) := by
  refine ⟨_, .read k hk, ?_⟩
  rcases recvStep_cases k onFail onPayload s with
    ⟨_, hr⟩ | ⟨_, _, hr⟩ | ⟨_, ha, hr⟩ | ⟨_, c, hv, hr⟩ | ⟨hl, d, hv, hr⟩ <;> rw [hr]
  · exact .overrun k hk
  · exact hfail _ _ rfl
  · refine .again k hk ?_
    rwa [(receiveBytes_counts k _ _).1, State.params, (receiveBytes_keepsControl k _ s).cfg]
  · exact hfail c _ (isEngine_of_validateFrame _ _ _ hv)
  · exact hload d _ (length_of_validateFrame _ _ _ hv) (receiveBytes_full_rxlen _ _ _ hl)

/-- The CMD_TX step is the write of the frame and an end, where the operation's continuation is one. -/
theorem cmdTxStep_split {opcode p1 : Byte} {p2 : U16} {payload : List Byte} {onSent : State → State}
    (hwithin : ∀ q, withinLimits q op = true → payload.length ≤ q.maxPayload)
    (hsent : ∀ u, PhaseEnd op p u (onSent u)) :
    ∃ u, PhaseEvent op p s u ∧ PhaseEnd op p u (cmdTxStep opcode p1 p2 payload onSent s) := by
  refine ⟨_, .command opcode p1 p2 payload hwithin, ?_⟩
  rcases cmdTxStep_cases opcode p1 p2 payload onSent s with ⟨_, hr⟩ | ⟨_, hr⟩ <;> rw [hr]
  · exact hsent _
  · exact .outcome _ _ rfl fun _ _ => Nat.zero_le _

/-- The outcome of a one-byte write is an end. -/
theorem wordOutcome_end (status : Byte) (u : State) : PhaseEnd op p u (wordOutcome status u) := by
  unfold wordOutcome
  split <;> exact .outcome _ _ rfl fun _ _ => Nat.zero_le _

/-- A failure without data is an end. -/
theorem finish_nil_end (c : ErrCode) (u : State) (hc : c.isEngine = true) : PhaseEnd op p u (finish c [] u) :=
  .outcome c [] hc fun _ _ => Nat.zero_le _

/-- The ready check is a read and an end (R186). -/
theorem wakeRxStep_split {onReady : State → State} (hk : receiveLength op p = some 4)
    (hready : ∀ u, PhaseEnd op p u (onReady u)) :
    ∃ u, PhaseEvent op p s u ∧ PhaseEnd op p u (wakeRxStep onReady s) := by
  refine recvStep_split hk (fun _ u _ => finish_nil_end _ u rfl) fun d u _ _ => ?_
  split
  · exact hready u
  · exact finish_nil_end _ u rfl

/-- A payload of what an operation within the limits asks for has at most 252 bytes (R161). -/
theorem length_le_of_within {q : Config.Params} {k : Nat} {d : List Byte} (hq : withinLimits q op = true)
    (hk : receiveLength op p = some k) (hd : d.length ≤ k - 3) : d.length ≤ 252 := by
  have := receiveLength_bounds q op p k hq hk
  omega

/-- RESP_RX of an exchange is a read and an end (R190). -/
theorem respRxStep_split {n : Byte} {sc : Bool} {onData : List Byte → State → State}
    (hk : receiveLength op p = some (requestLength n))
    (hdata : ∀ d u, d.length ≤ n.toNat → u.rxlen = requestLength n → PhaseEnd op p u (onData d u)) :
    ∃ u, PhaseEvent op p s u ∧ PhaseEnd op p u (respRxStep n sc onData s) := by
  refine recvStep_split hk finish_nil_end fun d u hd hu => ?_
  split
  · exact .outcome _ d rfl fun q hq => length_le_of_within hq hk hd
  · exact hdata d u hd hu

end Split

/-- Each row of R197's table is an event and an end. -/
theorem phaseStep_split (op : Instr) (p : Phase) (s t : State) (h : phaseStep op p s = some t) :
    ∃ u, PhaseEvent op p s u ∧ PhaseEnd op p u t := by
  cases op with
  | crc bytes =>
    cases p with
    | crcRun => cases h; exact ⟨_, .crc bytes, .crcOutcome bytes rfl⟩
    | _ => cases h
  | send opcode p1 p2 payload =>
    cases p with
    | cmdTx =>
      cases h
      exact cmdTxStep_split (fun _ hq => of_decide_eq_true hq) fun u => finish_nil_end _ u rfl
    | _ => cases h
  | recv n =>
    cases p with
    | respRx =>
      cases h
      exact recvStep_split rfl finish_nil_end fun d u hd _ =>
        .outcome _ d rfl fun q hq => length_le_of_within (p := .respRx) (k := requestLength n) hq rfl hd
    | _ => cases h
  | wake =>
    cases p with
    | wakeTx => cases h; exact ⟨_, .wake, .advance _ (by decide) (by decide)⟩
    | wakeSettle => cases h; exact ⟨_, .wakeSettle _ _, .toReceive _ (by decide) (.inl rfl)⟩
    | wakeRx => cases h; exact wakeRxStep_split rfl fun u => finish_nil_end _ u rfl
    | _ => cases h
  | idle =>
    cases p with
    | idleTx => cases h; exact ⟨_, .idle, wordOutcome_end _ _⟩
    | _ => cases h
  | sleep =>
    cases p with
    | sleepTx => cases h; exact ⟨_, .sleep, wordOutcome_end _ _⟩
    | _ => cases h
  | wait t =>
    cases p with
    | delay => cases h; exact ⟨_, .delayMs _, finish_nil_end _ _ rfl⟩
    | _ => cases h
  | exch opcode p1 p2 settle n sc payload =>
    cases p with
    | cmdTx =>
      cases h
      exact cmdTxStep_split (fun _ => payload_le_of_exch) fun u => .advance _ (by decide) (by simp [nextPhases])
    | settle => cases h; exact ⟨_, .delayMs _, .toReceive _ (by simp [nextPhases]) (.inr rfl)⟩
    | respRx =>
      cases h
      exact respRxStep_split rfl fun d u hd _ =>
        .outcome _ d rfl fun q hq => length_le_of_within (p := .respRx) (k := requestLength n) hq rfl hd
    | _ => cases h
  | xact opcode p1 p2 settle n sc drain payload =>
    cases p with
    | wakeTx => cases h; exact ⟨_, .wake, .advance _ (by decide) (by simp [nextPhases])⟩
    | wakeSettle => cases h; exact ⟨_, .wakeSettle _ _, .toReceive _ (by simp [nextPhases]) (.inl rfl)⟩
    | wakeRx => cases h; exact wakeRxStep_split rfl fun u => .advance _ (by decide) (by simp [nextPhases])
    | cmdTx =>
      cases h
      exact cmdTxStep_split (fun _ => payload_le_of_xact) fun u => .advance _ (by decide) (by simp [nextPhases])
    | settle => cases h; exact ⟨_, .delayMs _, .toReceive _ (by simp [nextPhases]) (.inr rfl)⟩
    | respRx =>
      cases h
      exact respRxStep_split rfl fun d u _ hu => .toDrain (by rw [hu]; rfl) (by simp [nextPhases])
    | drain => cases h; exact ⟨_, .delayMs _, .toIdle rfl (by simp [nextPhases])⟩
    | idleTx =>
      cases h
      exact ⟨_, .idle, .outcome _ _ rfl fun q hq =>
        length_le_of_within (p := .respRx) (k := requestLength n) hq rfl (length_rxPayload_le n.toNat _)⟩
    | _ => cases h
  | _ => cases h

end Sys2Proof.Machine
end

section
/-! PROOF. The engine's invariant: what the events keep of it, what each way of ending a step restores, and that every
step keeps it. -/

namespace Sys2Proof.Machine

open Safety

/-- The part of the invariant that speaks of data, whatever the engine is doing: it holds in mid-step too, between the
event and the end of the step. -/
structure DataInv (s : State) : Prop where
  tx : s.txlen ≤ 256 ∧ bufferFilled s.txbuf s.txlen
  rx : s.rxlen ≤ 255 ∧ bufferFilled s.rxbuf s.rxlen
  crc : s.crcBit = 0#3
  attempts : s.attempts ≤ s.params.readAttempts
  busInit : s.transport.issuedAfterInit = true ∨ s.transport.sentAfterInit = true → s.transport.initDone = true

theorem dataInv_of_engineInv {s : State} (h : EngineInv s) : DataInv s :=
  ⟨h.tx, h.rx, h.crc, h.attempts, h.busInit⟩

/-! ## One rule per state operation -/

section Operations

variable {s : State} (h : DataInv s)
include h

theorem dataInv_device (d : Device) : DataInv { s with device := d } :=
  ⟨h.tx, h.rx, h.crc, h.attempts, h.busInit⟩

theorem dataInv_loadTx (bytes : List Byte) (hb : bytes.length ≤ 256) : DataInv (loadTx bytes s) :=
  ⟨⟨hb, bufferFilled_bufferOf bytes⟩, h.rx, h.crc, h.attempts, h.busInit⟩

theorem dataInv_loadRx (bytes : List Byte) (hb : bytes.length ≤ 255) : DataInv (loadRx bytes s) :=
  ⟨h.tx, ⟨hb, bufferFilled_bufferOf bytes⟩, h.crc, h.attempts, h.busInit⟩

theorem dataInv_runCrc (bytes : List Byte) : DataInv (runCrc bytes s) :=
  ⟨h.tx, h.rx, crcRun_bit bytes, h.attempts, h.busInit⟩

/-- What is sent was issued, so that its note stands under the same `BusInit` (R293). -/
theorem dataInv_busWrite (addr : Nat) (bytes : List Byte) : DataInv (busWrite addr bytes s) :=
  ⟨h.tx, h.rx, h.crc, h.attempts, by simpa using fun hi => h.busInit (.inl hi)⟩

theorem dataInv_takeAnswer : DataInv (takeAnswer s) :=
  ⟨h.tx, h.rx, h.crc, h.attempts, by simpa using h.busInit⟩

theorem dataInv_countAttempt (k : Nat) (bytes : List Byte) (hleft : s.attempts < s.params.readAttempts) :
    DataInv (countAttempt k bytes s) :=
  ⟨h.tx, h.rx, h.crc, hleft, h.busInit⟩

theorem dataInv_setPhase (p : Phase) : DataInv (setPhase p s) := ⟨h.tx, h.rx, h.crc, h.attempts, h.busInit⟩

theorem dataInv_enterRecv (p : Phase) : DataInv (enterRecv p s) :=
  ⟨h.tx, h.rx, h.crc, Nat.zero_le _, h.busInit⟩

theorem dataInv_raiseFault (r : FaultReason) : DataInv (raiseFault r s) :=
  ⟨h.tx, h.rx, h.crc, h.attempts, h.busInit⟩

theorem dataInv_setCrcOut (v : U16) : DataInv (setCrcOut v s) := ⟨h.tx, h.rx, h.crc, h.attempts, h.busInit⟩

/-- What is issued after `BusInit` is noted so (R293). -/
theorem dataInv_beginOp (op : Instr) (p : Phase) : DataInv (beginOp op p s) :=
  ⟨h.tx, h.rx, h.crc, h.attempts, fun hi => hi.elim id fun hsent => h.busInit (.inr hsent)⟩

theorem dataInv_acceptBytes (k : Nat) (bytes : List Byte) (hb : bytes.length ≤ 255) :
    DataInv (acceptBytes k bytes s) := by
  unfold acceptBytes
  split
  · exact dataInv_device (dataInv_loadRx h bytes hb) _
  · exact dataInv_loadRx h bytes hb

theorem dataInv_checkBytes (k : Nat) (bytes : List Byte) : DataInv (checkBytes k bytes s) := by
  unfold checkBytes
  split
  · exact dataInv_runCrc h _
  · exact h

/-- Whatever a read returns, `RXBUF` holds at most what was asked for (R32, R156). -/
theorem dataInv_storeBytes (k : Nat) (bytes : List Byte) (hk : k ≤ 255) : DataInv (storeBytes k bytes s) := by
  unfold storeBytes
  split
  · exact h
  · split
    · exact dataInv_acceptBytes h k bytes (by omega)
    · exact dataInv_checkBytes (dataInv_acceptBytes h k bytes (by omega)) k bytes

theorem dataInv_transmitCommand (opcode p1 : Byte) (p2 : U16) (payload : List Byte)
    (hb : payload.length ≤ s.params.maxPayload) : DataInv (transmitCommand opcode p1 p2 payload s) := by
  have hmax := hb.trans (maxPayload_le s.cfg)
  have hlen : (commandFrame opcode p1 p2 payload).length ≤ 256 := by rw [length_commandFrame]; omega
  exact dataInv_device (dataInv_busWrite (dataInv_loadTx (dataInv_runCrc h _) _ hlen) _ _) _

end Operations

/-! ## The events, and the ends of a step -/

/-- A read is made in a receive phase (R155). -/
theorem phase_of_receiveLength {op : Instr} {p : Phase} {k : Nat} (h : receiveLength op p = some k) :
    p = .wakeRx ∨ p = .respRx := by
  unfold receiveLength at h
  split at h <;> simp at h ⊢

/-- The event of a phase keeps the data's part, where the operation is within the limits and a receive phase has an
attempt left. -/
theorem PhaseEvent.dataInv {op : Instr} {p : Phase} {s u : State} (he : PhaseEvent op p s u) (h : DataInv s)
    (hl : withinLimits s.params op = true)
    (hleft : p = .wakeRx ∨ p = .respRx → s.attempts < s.params.readAttempts) : DataInv u := by
  cases he with
  | crc bytes => exact dataInv_runCrc h bytes
  | wake => exact dataInv_device (dataInv_busWrite h _ _) _
  | idle => exact dataInv_device (dataInv_busWrite (dataInv_loadTx h [_] (by simp)) _ _) _
  | sleep => exact dataInv_device (dataInv_busWrite (dataInv_loadTx h [_] (by simp)) _ _) _
  | command opcode p1 p2 payload within => exact dataInv_transmitCommand h _ _ _ _ (within _ hl)
  | read k receives =>
    exact dataInv_storeBytes
      (dataInv_countAttempt (dataInv_takeAnswer h) k _ (hleft (phase_of_receiveLength receives))) k _
      (receiveLength_bounds _ op p k hl receives).2
  | delayMs t => exact ⟨h.tx, h.rx, h.crc, h.attempts, h.busInit⟩
  | wakeSettle t d => exact ⟨h.tx, h.rx, h.crc, h.attempts, h.busInit⟩

/-- The phases that R197's table leads to are READY and those of the operation. -/
theorem nextPhases_subset (op : Instr) (p : Phase) : nextPhases op p ⊆ .ready :: phasesOf op := by
  unfold nextPhases
  split <;> simp [phasesOf]

theorem mem_phasesOf_of_nextPhases {op : Instr} {p q : Phase} (h : q ∈ nextPhases op p) (hq : q ≠ .ready) :
    q ∈ phasesOf op :=
  (List.mem_cons.1 (nextPhases_subset op p h)).resolve_left hq

/-- The codes an operation can record are those of R261's table. -/
theorem toByte_mem_engineCodes {c : ErrCode} (h : c.isEngine = true) : c.toByte ∈ engineCodes := by
  cases c <;> first | decide | cases h

/-- What XACT must hold concerns DRAIN and the final idle alone (R191). -/
theorem xactHolds_of_phase {s : State} (h : ¬ (s.seqPhase = .drain ∨ s.seqPhase = .idleTx)) : xactHolds s := by
  unfold xactHolds
  split
  · exact fun hp => absurd hp h
  · trivial

/-- The invariant after the last step of an operation (R26). -/
theorem engineInv_finish {u : State} (h : DataInv u) (hr : u.fault = u.faultReason.isSome) (c : ErrCode)
    (data : List Byte) (hc : c.isEngine = true) (hd : data.length ≤ 252) : EngineInv (finish c data u) where
  tx := h.tx
  rx := h.rx
  crc := h.crc
  attempts := h.attempts
  attemptLeft := fun _ hp => by simp at hp
  resultHeld := fun _ => ⟨c.toByte, data, rfl, rfl, toByte_mem_engineCodes hc, hd⟩
  busyInvalid := fun hp => absurd rfl hp
  busInit := h.busInit
  faultReason := hr
  op := rfl
  held := trivial

/-- The part of the invariant that holds all through an operation's steps, between event and end too: it is an
admissible one, and no result is valid. -/
structure Working (op : Instr) (u : State) : Prop where
  data : DataInv u
  curOp : u.curOp = some op
  isHostOp : op.isHostOp = true
  wf : op.wf = true
  limits : withinLimits u.params op = true
  invalid : u.result.valid = false
  faultReason : u.fault = u.faultReason.isSome

theorem working_of_engineInv {s : State} {op : Instr} (h : EngineInv s) (hop : s.curOp = some op)
    (hp : s.seqPhase ≠ .ready) : Working op s ∧ s.seqPhase ∈ phasesOf op := by
  have hc := h.op
  unfold opConsistent at hc
  rw [hop] at hc
  obtain ⟨hk, hw, hl, hmem⟩ := hc
  exact ⟨⟨dataInv_of_engineInv h, hop, hk, hw, hl, h.busyInvalid hp, h.faultReason⟩, hmem⟩

/-- What an operation in progress needs for the whole invariant: a phase of its own, and what the receive phases and
XACT ask for. -/
theorem engineInv_of_working {op : Instr} {t : State} (h : Working op t) (hp : t.seqPhase ∈ phasesOf op)
    (hleft : t.fault = false → (t.seqPhase = .wakeRx ∨ t.seqPhase = .respRx) → t.attempts < t.params.readAttempts)
    (hx : xactHolds t) : EngineInv t where
  tx := h.data.tx
  rx := h.data.rx
  crc := h.data.crc
  attempts := h.data.attempts
  attemptLeft := hleft
  resultHeld := fun hv => by rw [h.invalid] at hv; cases hv
  busyInvalid := fun _ => h.invalid
  busInit := h.data.busInit
  faultReason := h.faultReason
  op := by unfold opConsistent; rw [h.curOp]; exact ⟨h.isHostOp, h.wf, h.limits, hp⟩
  held := hx

theorem PhaseEvent.working {op : Instr} {p : Phase} {s u : State} (he : PhaseEvent op p s u) (h : Working op s)
    (hleft : p = .wakeRx ∨ p = .respRx → s.attempts < s.params.readAttempts) : Working op u := by
  obtain ⟨_, hcur, _, hres, hf, hfr, hcfg⟩ := he.keepsControl
  exact ⟨he.dataInv h.data h.limits hleft, hcur.trans h.curOp, h.isHostOp, h.wf,
    by rw [State.params, hcfg]; exact h.limits, by rw [hres]; exact h.invalid, by rw [hf, hfr]; exact h.faultReason⟩

/-- Only a read changes what `RXBUF` holds (R32). -/
theorem PhaseEvent.rxlen {op : Instr} {p : Phase} {s u : State} (he : PhaseEvent op p s u)
    (hp : ¬ (p = .wakeRx ∨ p = .respRx)) : u.rxlen = s.rxlen := by
  cases he
  case read k receives => exact absurd (phase_of_receiveLength receives) hp
  all_goals rfl

/-- DRAIN is entered with the whole response frame in `RXBUF` (R191). -/
theorem xactHolds_setPhase_drain {op : Instr} {u : State} (hop : u.curOp = some op)
    (h : receiveLength op .respRx = some u.rxlen) : xactHolds (setPhase .drain u) := by
  unfold xactHolds
  rw [setPhase_curOp, hop]
  cases op with
  | xact => exact fun _ => (Option.some.inj h).symm
  | _ => trivial

/-- The response frame is still there as the final idle is entered (R191). -/
theorem xactHolds_setPhase_idleTx {s u : State} (h : xactHolds s) (hp : s.seqPhase = .drain)
    (hop : u.curOp = s.curOp) (hrx : u.rxlen = s.rxlen) : xactHolds (setPhase .idleTx u) := by
  unfold xactHolds at *
  rw [setPhase_curOp, hop, setPhase_rxlen, hrx]
  split at h
  · exact fun _ => h (.inl hp)
  · trivial

section Ends

variable {op : Instr} {u : State} (h : Working op u)
include h

theorem working_raiseFault (r : FaultReason) : Working op (raiseFault r u) :=
  ⟨dataInv_raiseFault h.data r, h.curOp, h.isHostOp, h.wf, h.limits, h.invalid, rfl⟩

theorem working_setPhase (p : Phase) : Working op (setPhase p u) :=
  ⟨dataInv_setPhase h.data p, h.curOp, h.isHostOp, h.wf, h.limits, h.invalid, h.faultReason⟩

theorem working_enterRecv (p : Phase) : Working op (enterRecv p u) :=
  ⟨dataInv_enterRecv h.data p, h.curOp, h.isHostOp, h.wf, h.limits, h.invalid, h.faultReason⟩

/-- A phase that receives nothing asks for no attempt. -/
theorem engineInv_setPhase {p q : Phase} (hq : q ∈ nextPhases op p) (hr : q ≠ .ready)
    (hn : ¬ (q = .wakeRx ∨ q = .respRx)) (hx : xactHolds (setPhase q u)) : EngineInv (setPhase q u) :=
  engineInv_of_working (working_setPhase h q) (mem_phasesOf_of_nextPhases hq hr) (fun _ hp => absurd hp hn) hx

/-- A receive phase is entered with all its attempts left (R155). -/
theorem engineInv_enterRecv {p q : Phase} (hq : q ∈ nextPhases op p) (hr : q = .wakeRx ∨ q = .respRx) :
    EngineInv (enterRecv q u) := by
  have hne : q ≠ .ready := by rcases hr with rfl | rfl <;> decide
  have hx : ¬ (q = .drain ∨ q = .idleTx) := by rcases hr with rfl | rfl <;> decide
  exact engineInv_of_working (working_enterRecv h q) (mem_phasesOf_of_nextPhases hq hne)
    (fun _ _ => readAttempts_pos u.cfg) (xactHolds_of_phase hx)

end Ends

/-- A step of the operation in progress keeps the invariant, however it ends. -/
theorem engineInv_of_phaseEnd {op : Instr} {s u t : State} (hs : EngineInv s) (hf : s.fault = false)
    (hop : s.curOp = some op) (hp : s.seqPhase ≠ .ready) (hev : PhaseEvent op s.seqPhase s u)
    (hend : PhaseEnd op s.seqPhase u t) : EngineInv t := by
  obtain ⟨hws, hmem⟩ := working_of_engineInv hs hop hp
  have hw := hev.working hws (hs.attemptLeft hf)
  have hphase : u.seqPhase = s.seqPhase := hev.keepsControl.seqPhase
  have hin : u.seqPhase ∈ phasesOf op := hphase ▸ hmem
  have hreceiving : ∀ k, receiveLength op s.seqPhase = some k → xactHolds u := fun k hk =>
    xactHolds_of_phase (by rcases phase_of_receiveLength hk with h | h <;> simp [hphase, h])
  cases hend with
  | overrun k receives =>
    exact engineInv_of_working (working_raiseFault hw _) hin nofun (hreceiving k receives)
  | again k receives left =>
    exact engineInv_of_working hw hin (fun _ _ => lt_of_le_of_ne hw.data.attempts left) (hreceiving k receives)
  | outcome c data engine short => exact engineInv_finish hw.data hw.faultReason c data engine (short _ hw.limits)
  | crcOutcome bytes => exact engineInv_finish (dataInv_setCrcOut hw.data _) hw.faultReason _ _ rfl (Nat.zero_le _)
  | advance q early allowed =>
    simp only [List.mem_cons, List.not_mem_nil, or_false] at early
    rcases early with rfl | rfl | rfl <;>
      exact engineInv_setPhase hw allowed (by decide) (by decide) (xactHolds_of_phase (by simp))
  | toDrain holds allowed =>
    exact engineInv_setPhase hw allowed (by decide) (by decide) (xactHolds_setPhase_drain hw.curOp holds)
  | toIdle drained allowed =>
    exact engineInv_setPhase hw allowed (by decide) (by decide)
      (xactHolds_setPhase_idleTx hs.held drained hev.keepsControl.curOp (hev.rxlen (by simp [drained])))
  | toReceive q allowed receives => exact engineInv_enterRecv hw allowed receives

/-! ## The first step of an operation -/

/-- What acceptance does, whole (R26, R155). -/
theorem accepted_eq (op : Instr) (s : State) :
    accepted op s =
      { beginOp op (firstPhase op) s with attempts := if clearsAttempts op = true then 0 else s.attempts } := by
  unfold accepted
  split <;> rfl

/-- R197: an operation starts in a phase of its own. -/
theorem firstPhase_mem {op : Instr} (hk : op.isHostOp = true) : firstPhase op ∈ phasesOf op := by
  cases op <;> cases hk <;> exact List.mem_cons_self

/-- RECV alone starts in a receive phase (R155, R197). -/
theorem clearsAttempts_of_firstPhase {op : Instr} (h : firstPhase op = .wakeRx ∨ firstPhase op = .respRx) :
    clearsAttempts op = true := by
  cases op <;> first | rfl | simp [firstPhase] at h

/-- Acceptance keeps the invariant (R26, R155, R293). -/
theorem engineInv_accepted {op : Instr} {s : State} (h : EngineInv s) (hk : op.isHostOp = true) (hw : op.wf = true)
    (hl : withinLimits s.params op = true) : EngineInv (accepted op s) := by
  obtain ⟨htx, hrx, hcrc, hatt, hinit⟩ := dataInv_beginOp (dataInv_of_engineInv h) op (firstPhase op)
  rw [accepted_eq]
  refine engineInv_of_working (op := op) ⟨⟨htx, hrx, hcrc, ?_, hinit⟩, rfl, hk, hw, hl, rfl, h.faultReason⟩
    (firstPhase_mem hk) ?_ ?_
  · simp only
    split
    · exact Nat.zero_le _
    · exact hatt
  · intro _ hp
    simp only [clearsAttempts_of_firstPhase hp, if_true]
    exact readAttempts_pos s.cfg
  · cases op with
    | xact => exact xactHolds_of_phase (by simp [firstPhase])
    | _ => trivial

/-- A fault keeps the invariant: nothing but the fault record changes (R267). -/
theorem engineInv_raiseFault {s : State} (h : EngineInv s) (r : FaultReason) : EngineInv (raiseFault r s) :=
  ⟨h.tx, h.rx, h.crc, h.attempts, nofun, h.resultHeld, h.busyInvalid, h.busInit, rfl, h.op, h.held⟩

/-- The engine reset gives a state that meets the invariant (R39), whatever it was before. -/
theorem engineInv_engineReset (s : State)
    (h : s.transport.issuedAfterInit = true ∨ s.transport.sentAfterInit = true → s.transport.initDone = true) :
    EngineInv (engineReset s) :=
  ⟨⟨Nat.zero_le _, rfl⟩, ⟨Nat.zero_le _, rfl⟩, rfl, Nat.zero_le _, fun _ hp => by simp [engineReset] at hp, nofun,
    fun hp => absurd rfl hp, h, rfl, rfl, trivial⟩

/-! ## Every step -/

/-- A wire format is never in progress (R197), so that an act of the engine keeps the invariant. -/
theorem engineInv_engineAct {s t : State} (hs : EngineInv s) (hf : s.fault = false) (h : EngineAct s t) :
    EngineInv t := by
  obtain (⟨r, rfl⟩ | ⟨_, op, hk, hw, hl, rfl⟩ | ⟨hp, op, _, hop, hstep⟩) | ⟨hp, op, hop, hwire⟩ := h
  · exact engineInv_raiseFault hs r
  · exact engineInv_accepted hs hk hw hl
  · obtain ⟨u, hev, hend⟩ := phaseStep_split op _ s t hstep
    exact engineInv_of_phaseEnd hs hf hop hp hev hend
  · have hk := (working_of_engineInv hs hop hp).1.isHostOp
    rw [isHostOp_of_wireStep op s t hwire] at hk
    cases hk

theorem engineInv_step {s t : State} (hs : EngineInv s) (h : step s = .next t) : EngineInv t := by
  obtain ⟨_, rfl⟩ | hsame | ⟨hf, u, hsame, ha⟩ := step_engine s t h
  · exact engineInv_engineReset _ hs.busInit
  · exact hsame.engineInv hs
  · exact engineInv_engineAct (hsame.engineInv hs) (hsame.fault.trans hf) ha

end Sys2Proof.Machine
end

section
/-! PROOF. The statements about the state: reset, the fault record, the invariant, the result and `CRC_OUT`, the first
step of a host operation, and the host's registers. -/

namespace Sys2Proof.Machine

open Safety

/-! ## `RESULT` and `CRC_OUT` along an act of the engine -/

/-- What the end of a step does to `RESULT`: nothing, or the outcome is recorded (R26, R261). -/
theorem PhaseEnd.result {op : Instr} {p : Phase} {u t : State} (h : PhaseEnd op p u t) :
    t.result = u.result ∨
      (t.seqPhase = .ready ∧ t.curOp = none ∧ ∃ c d, c ∈ engineCodes ∧ t.result = ⟨true, some c, some d⟩) := by
  cases h with
  | outcome c data engine => exact .inr ⟨rfl, rfl, c.toByte, data, toByte_mem_engineCodes engine, rfl⟩
  | crcOutcome => exact .inr ⟨rfl, rfl, 0x00#8, [], by decide, rfl⟩
  | _ => exact .inl rfl

/-- What the end of a step does to `CRC_OUT`: nothing, or it is CRC's and leaves the checksum there (R30, R134). -/
theorem PhaseEnd.crcOut {op : Instr} {p : Phase} {u t : State} (h : PhaseEnd op p u t) :
    t.crcOut = u.crcOut ∨ ∃ bytes, op = .crc bytes ∧ t.crcOut = some (crc16 bytes) := by
  cases h with
  | crcOutcome bytes isCrc => exact .inr ⟨bytes, isCrc, rfl⟩
  | _ => exact .inl rfl

/-- What an act of the engine does to `RESULT`: nothing, or it is an operation's first or last step (R26). -/
theorem EngineAct.result {s t : State} (h : EngineAct s t) :
    t.result = s.result ∨
      (s.seqPhase = .ready ∧ t.curOp.isSome = true ∧ t.result = ⟨false, s.result.err, s.result.data⟩) ∨
      (s.seqPhase ≠ .ready ∧ t.seqPhase = .ready ∧ t.curOp = none ∧
        ∃ c d, c ∈ engineCodes ∧ t.result = ⟨true, some c, some d⟩) := by
  obtain (⟨r, rfl⟩ | ⟨hp, op, _, _, _, rfl⟩ | ⟨hp, op, _, _, hstep⟩) | ⟨_, op, _, hwire⟩ := h
  · exact .inl rfl
  · rw [accepted_eq]; exact .inr (.inl ⟨hp, rfl, rfl⟩)
  · obtain ⟨u, hev, hend⟩ := phaseStep_split op _ s t hstep
    rw [← hev.keepsControl.result]
    rcases hend.result with hr | ⟨hready, hcur, hr⟩
    · exact .inl hr
    · exact .inr (.inr ⟨hp, hready, hcur, hr⟩)
  · exact .inl (wireStep_keepsControl op s t hwire).result

/-- What an act of the engine does to `CRC_OUT`: nothing, or CRC is in progress and leaves its checksum there (R30). -/
theorem EngineAct.crcOut {s t : State} (h : EngineAct s t) :
    t.crcOut = s.crcOut ∨ ∃ bytes, s.curOp = some (.crc bytes) ∧ t.crcOut = some (crc16 bytes) := by
  obtain (⟨r, rfl⟩ | ⟨hp, op, _, _, _, rfl⟩ | ⟨hp, op, _, hop, hstep⟩) | ⟨_, op, _, hwire⟩ := h
  · exact .inl rfl
  · rw [accepted_eq]; exact .inl rfl
  · obtain ⟨u, hev, hend⟩ := phaseStep_split op _ s t hstep
    rw [← hev.keepsControl.crcOut, hop]
    rcases hend.crcOut with hr | ⟨bytes, rfl, hr⟩
    · exact .inl hr
    · exact .inr ⟨bytes, rfl, hr⟩
  · exact .inl (wireStep_keepsControl op s t hwire).crcOut

/-- After an engine reset no bit of STATUS is set (R27, R39). -/
theorem statusByte_engineReset (s : State) : statusByte (engineReset s) = 0x00#8 := by
  have h : statusBits false false false false = 0x00#8 := by decide
  exact h

/-- The encoding of `SEQ_PHASE` is R23's table. -/
theorem phaseCode_of_mem : ∀ q ∈ phaseCodes, phaseCode q.1 = q.2 := by decide

/-! ## Acceptance, as the statements expect it -/

/-- A first step that passes the checks is the effect the statements expect (R26); RECV clears `ATTEMPTS` too (R155). -/
theorem exec_eq_started {op : Instr} {s : State} (h : Ready s) (hk : op.isHostOp = true) (hw : op.wf = true)
    (hl : withinLimits s.params op = true) :
    exec op s = .next { started op (firstPhase op) s with
      attempts := if clearsAttempts op = true then 0 else s.attempts } := by
  rw [exec_of_ready op s hk h, accept, hw, hl, accepted_eq]
  rfl

/-- The two checks of EXCH's and XACT's operands, as `Bool`s (R111, R113, R114). -/
theorem operands_ok {p : Config.Handle} {n : Byte} {sc : Bool} {payload : List Byte}
    (hp : payload.length ≤ p.params.maxPayload) (hn : n.toNat ≤ 252) (hs : sc = true → n = 1#8) :
    (decide (payload.length ≤ 255) && (!sc || n == 1#8)) = true ∧
      (decide (payload.length ≤ p.params.maxPayload) && decide (n.toNat ≤ Config.MAX_EXPECTED)) = true := by
  have hmax := hp.trans (maxPayload_le p)
  have hlen : payload.length ≤ 255 := by omega
  have hn' : n.toNat ≤ Config.MAX_EXPECTED := hn
  refine ⟨?_, by simp [hp, hn']⟩
  cases sc with
  | false => simp [hlen]
  | true => simp [hlen, hs rfl]

end Sys2Proof.Machine

namespace Sys2Proof.StateProofs

open Machine Safety

/-- Settles O3: an act of the engine is an event and an end of the step, and each keeps its part of the invariant. -/
theorem stepKeepsTheInvariant : Obligations.StepKeepsTheInvariant := fun _ _ hs h => engineInv_step hs h

/-- Settles O4: a faulted engine does not act, and what is left but the reset does not touch it. -/
theorem onlyResetClearsFault : Obligations.OnlyResetClearsFault := by
  intro s t hfault h hreset
  obtain ⟨hi, _⟩ | hsame | ⟨hf, _⟩ := step_engine s t h
  · exact absurd hi hreset
  · exact ⟨hsame.fault.trans hfault, hsame.faultReason⟩
  · rw [hfault] at hf; cases hf

/-- Settles O9: `RESULT` changes in an act of the engine alone, and there at the two points of R26. -/
theorem resultIsWrittenAtTwoPoints : Obligations.ResultIsWrittenAtTwoPoints := by
  intro s t h hreset
  obtain ⟨hi, _⟩ | hsame | ⟨_, u, hsame, ha⟩ := step_engine s t h
  · exact absurd hi hreset
  · exact .inl hsame.result
  · rw [← hsame.result, ← hsame.seqPhase]
    exact ha.result

/-- Settles O10: of the ends of a step, CRC's alone writes `CRC_OUT`. -/
theorem onlyCrcWritesCrcOut : Obligations.OnlyCrcWritesCrcOut := by
  intro s t h hreset hne
  obtain ⟨hi, _⟩ | hsame | ⟨_, u, hsame, ha⟩ := step_engine s t h
  · exact absurd hi hreset
  · exact absurd hsame.crcOut hne
  · rw [← hsame.curOp]
    rw [← hsame.crcOut] at hne
    exact ha.crcOut.resolve_left hne

/-- Settles O1: each value stands in the definition of the reset. -/
theorem engineResetGivesTheResetValues : Obligations.EngineResetGivesTheResetValues := by
  intro s rest
  refine ⟨engineReset { s with inbox := rest }, rfl, rfl, rfl, rfl, rfl, rfl, fun _ => rfl, rfl, fun _ => rfl, rfl, rfl,
    rfl, rfl, rfl, statusByte_engineReset _, rfl, rfl, ?_, devicePowerOn { s with inbox := rest }, rfl, rfl⟩
  intro r hr
  simp only [List.mem_cons, List.not_mem_nil, or_false] at hr
  rcases hr with rfl | rfl | rfl <;> rfl

/-- Settles O2: `State.reset` is its own engine reset. -/
theorem resetMeetsTheInvariant : Obligations.ResetMeetsTheInvariant := by
  have hfix : engineReset State.reset = State.reset := rfl
  refine ⟨hfix ▸ engineInv_engineReset State.reset (by decide), fun _ he => ?_, rfl, rfl, rfl, hfix⟩
  cases he

/-- Settles O18: the checks pass, and acceptance is the expected effect. -/
theorem hostOperationsAreAccepted : Obligations.HostOperationsAreAccepted := by
  intro s hready
  have hmax := maxPayload_le s.cfg
  refine ⟨fun bytes hb => exec_eq_started hready rfl (decide_eq_true hb) rfl,
    fun opcode p1 p2 payload hp =>
      exec_eq_started hready rfl (decide_eq_true (hp.trans (hmax.trans (by decide)))) (decide_eq_true hp),
    fun n hn => exec_eq_started hready rfl rfl (decide_eq_true hn), exec_eq_started hready rfl rfl rfl,
    exec_eq_started hready rfl rfl rfl, exec_eq_started hready rfl rfl rfl, fun t => exec_eq_started hready rfl rfl rfl,
    fun opcode p1 p2 settle n sc payload hp hn hs => ?_, fun opcode p1 p2 settle n sc drain payload hp hn hs => ?_⟩
  · obtain ⟨hw, hl⟩ := operands_ok hp hn hs
    exact exec_eq_started hready rfl hw hl
  · obtain ⟨hw, hl⟩ := operands_ok hp hn hs
    exact exec_eq_started hready rfl hw hl

/-- Settles O51: the step is the register's read, and the view is `regValue`, register by register. -/
theorem registerReadsDeliverTheView : Obligations.RegisterReadsDeliverTheView := by
  intro s rest r hi
  have hstep : step s = readRegister r { s with inbox := rest } := by rw [step_of_cons s _ _ hi, popInbox, hi]; rfl
  have hview : regValue { s with inbox := rest } r = regValue s r := by cases r <;> rfl
  obtain ⟨hbusy, hfault, hvalid, hok, hzero⟩ := statusBits_bits s.busy s.fault s.result.valid (statusOk s)
  refine ⟨fun v hv => ?_, fun hnone hf => ?_, rfl, ?_, hfault, hvalid, hok, hzero, fun hv => ?_, fun c hv hc => ?_,
    fun d hv hd => ?_, fun hc => ?_, fun v hv => ?_, fun q hq hp => ?_⟩
  · rw [hstep, readRegister, hview, hv]; rfl
  · rw [hstep, readRegister, hview, hnone]
    simp only [hf]
    rfl
  · rw [statusByte, hbusy, State.busy, decide_eq_true_iff]
  · simp [regValue, hv]
  · simp [regValue, hv, hc]
  · simp [regValue, hv, hd]
  · simp [regValue, hc]
  · simp [regValue, hv]
  · rw [regValue, hp]
    exact congrArg (fun c => some (RegValue.nibble c)) (phaseCode_of_mem q hq)

/-- Settles O56: the write is the fault, which no register but STATUS shows. -/
theorem hostWritesTakeTheProtocolFault : Obligations.HostWritesTakeTheProtocolFault := by
  intro s r v rest hf hi
  have hpop : popInbox s = { s with inbox := rest } := by rw [popInbox, hi]; rfl
  refine ⟨_, rfl, ?_, ?_, statusByte_raiseFault .hostProtocol { s with inbox := rest }⟩
  · rw [step_of_cons s _ _ hi, hpop]
    simp only [takeInput, writeRegister, hf]
    rfl
  · intro q hq
    cases q with
    | status => exact absurd rfl hq
    | _ => rfl

end Sys2Proof.StateProofs
end

section
/-! PROOF. The statements about the history: what each event writes into it, that a step records at most one event, and
that an operation within its limits records allowed ones alone. -/

namespace Sys2Proof.Machine

open Safety

/-- From `s` to `t` the events `l` came in front of the history, which else stands as it was (R76); time did not go back
(R11), and the configuration is the same (R40). -/
structure Records (l : List Event) (s t : State) : Prop where
  events : t.events = l ++ s.events
  time : s.elapsedUs ≤ t.elapsedUs
  cfg : t.cfg = s.cfg

theorem Records.trans {l m : List Event} {s t u : State} (h : Records l s t) (k : Records m t u) :
    Records (m ++ l) s u :=
  ⟨by rw [k.events, h.events, List.append_assoc], h.time.trans k.time, k.cfg.trans h.cfg⟩

/-- A history is allowed where what was before and what came in front of it is. -/
theorem Records.historyAllowed {l : List Event} {s t : State} (h : Records l s t) (hs : HistoryAllowed s)
    (hl : ∀ e ∈ l, eventAllowed s.params e) : HistoryAllowed t := by
  intro e he
  rw [h.events] at he
  rw [State.params, h.cfg]
  exact (List.mem_append.1 he).elim (hl e) (hs e)

/-! ## What each state operation records -/

/-- The agents around the engine take no part in the bus. -/
theorem records_outside (s : State) (d : Device) (h : HostAgent) (i : List Input) :
    Records [] s { s with device := d, host := h, inbox := i } := ⟨rfl, le_rfl, rfl⟩

theorem records_raiseFault (r : FaultReason) (s : State) : Records [] s (raiseFault r s) := ⟨rfl, le_rfl, rfl⟩

theorem records_finish (c : ErrCode) (data : List Byte) (s : State) : Records [] s (finish c data s) :=
  ⟨rfl, le_rfl, rfl⟩

theorem records_wordOutcome (status : Byte) (s : State) : Records [] s (wordOutcome status s) := by
  unfold wordOutcome
  split <;> exact records_finish _ _ s

theorem records_setPhase (p : Phase) (s : State) : Records [] s (setPhase p s) := ⟨rfl, le_rfl, rfl⟩

theorem records_enterRecv (p : Phase) (s : State) : Records [] s (enterRecv p s) := ⟨rfl, le_rfl, rfl⟩

theorem records_accepted (op : Instr) (s : State) : Records [] s (accepted op s) := by
  rw [accepted_eq]; exact ⟨rfl, le_rfl, rfl⟩

/-- The engine reset leaves the history and the time (R40). -/
theorem records_engineReset (s : State) : Records [] s (engineReset s) := ⟨rfl, le_rfl, rfl⟩

theorem records_recordRead (addr k : Nat) (bytes : List Byte) (s : State) :
    Records [.busRead addr k bytes] s (recordRead addr k bytes s) := ⟨rfl, le_rfl, rfl⟩

/-- What the bytes of a read do once it is recorded is no further event (R155). -/
theorem records_storeBytes (k : Nat) (bytes : List Byte) (s : State) : Records [] s (storeBytes k bytes s) := by
  unfold storeBytes acceptBytes checkBytes
  repeat' split
  all_goals exact ⟨rfl, le_rfl, rfl⟩

theorem records_receiveBytes (k : Nat) (bytes : List Byte) (s : State) :
    Records [.busRead s.params.devAddr k bytes] s (receiveBytes k bytes (takeAnswer s)) := by
  have hcount : Records [.busRead s.params.devAddr k bytes] s (countAttempt k bytes (takeAnswer s)) :=
    ⟨rfl, le_rfl, rfl⟩
  exact hcount.trans (records_storeBytes k bytes _)

theorem records_transmitWake (s : State) :
    Records [.busWrite s.params.generalCallAddr [] (nextStatus s)] s (transmitWake s) := ⟨rfl, le_rfl, rfl⟩

theorem records_transmitIdle (s : State) :
    Records [.busWrite s.params.devAddr [s.params.wordIdle] (nextStatus s)] s (transmitIdle s) := by
  rw [transmitIdle_eq]; exact ⟨rfl, le_rfl, rfl⟩

theorem records_transmitSleep (s : State) :
    Records [.busWrite s.params.devAddr [s.params.wordSleep] (nextStatus s)] s (transmitSleep s) := by
  rw [transmitSleep_eq]; exact ⟨rfl, le_rfl, rfl⟩

theorem records_transmitCommand (opcode p1 : Byte) (p2 : U16) (payload : List Byte) (s : State) :
    Records [.busWrite s.params.devAddr (commandFrame opcode p1 p2 payload) (nextStatus s)] s
      (transmitCommand opcode p1 p2 payload s) := by
  rw [transmitCommand_eq]; exact ⟨rfl, le_rfl, rfl⟩

theorem records_delayMs (t : Nat) (s : State) : Records [.delayMs t] s (delayMs t s) :=
  ⟨rfl, Nat.le_add_right _ _, rfl⟩

theorem records_wakeSettleStep (s : State) : Records [.delayUs s.params.tWakeUs] s (wakeSettleStep s) :=
  ⟨rfl, Nat.le_add_right _ _, rfl⟩

theorem records_busInit (s : State) : Records [.busInit s.params.busClock] s (busInit s) := ⟨rfl, le_rfl, rfl⟩

/-! ## At most one event -/

/-- From `s` to `t` nothing was recorded, or one event (R71), which is allowed under the premise `within`. The premise is
free because the count needs none, while the form of an event rests on the operation's limits (R114). -/
inductive AtMostOneEvent (within : Prop) (s t : State) : Prop where
  | quiet (records : Records [] s t)
  | event (e : Event) (records : Records [e] s t) (allowed : within → eventAllowed s.params e)

section Rows

variable {within : Prop} {s : State}

/-- A premise that says more allows as much. -/
theorem AtMostOneEvent.mono {within' : Prop} {t : State} (h : AtMostOneEvent within s t) (hw : within' → within) :
    AtMostOneEvent within' s t := by
  cases h with
  | quiet records => exact .quiet records
  | event e records allowed => exact .event e records (allowed ∘ hw)

/-- What the step does after its event records nothing. -/
theorem AtMostOneEvent.andThen {t u : State} (h : AtMostOneEvent within s t) (k : Records [] t u) :
    AtMostOneEvent within s u := by
  cases h with
  | quiet records => exact .quiet (records.trans k)
  | event e records allowed => exact .event e (records.trans k) allowed

/-- What the step does before its event records nothing. -/
theorem AtMostOneEvent.after {t u : State} (h : Records [] s t) (k : AtMostOneEvent within t u) :
    AtMostOneEvent within s u := by
  cases k with
  | quiet records => exact .quiet (h.trans records)
  | event e records allowed =>
    refine .event e (h.trans records) fun hw => ?_
    rw [State.params, ← h.cfg]
    exact allowed hw

/-- W-WAKE is the general-call write of nothing (R61, R99). -/
theorem transmitWake_event : AtMostOneEvent within s (transmitWake s) :=
  .event _ (records_transmitWake s) fun _ => .inl ⟨rfl, rfl⟩

/-- W-IDLE is a write of the idle word (R97). -/
theorem transmitIdle_event : AtMostOneEvent within s (transmitIdle s) :=
  .event _ (records_transmitIdle s) fun _ => .inr ⟨rfl, .inl rfl⟩

/-- W-SLEEP is a write of the sleep word (R98). -/
theorem transmitSleep_event : AtMostOneEvent within s (transmitSleep s) :=
  .event _ (records_transmitSleep s) fun _ => .inr ⟨rfl, .inr (.inl rfl)⟩

/-- W-CMD is a write of one whole frame (R69, R91), allowed where the payload is within its bound. -/
theorem transmitCommand_event {opcode p1 : Byte} {p2 : U16} {payload : List Byte}
    (hp : within → payload.length ≤ s.params.maxPayload) :
    AtMostOneEvent within s (transmitCommand opcode p1 p2 payload s) :=
  .event _ (records_transmitCommand opcode p1 p2 payload s) fun hw =>
    .inr ⟨rfl, .inr (.inr ⟨opcode, p1, p2, payload, hp hw, rfl⟩)⟩

theorem delayMs_event (t : Nat) : AtMostOneEvent within s (delayMs t s) :=
  .event _ (records_delayMs t s) fun _ => trivial

theorem wakeSettleStep_event : AtMostOneEvent within s (wakeSettleStep s) :=
  .event _ (records_wakeSettleStep s) fun _ => rfl

theorem wakeTxStep_event : AtMostOneEvent within s (wakeTxStep s) :=
  transmitWake_event.andThen (records_setPhase _ _)

/-- The CMD_TX step is the write of the frame, whatever its status (R152). -/
theorem cmdTxStep_event {opcode p1 : Byte} {p2 : U16} {payload : List Byte} {onSent : State → State}
    (hp : within → payload.length ≤ s.params.maxPayload) (hsent : ∀ u, Records [] u (onSent u)) :
    AtMostOneEvent within s (cmdTxStep opcode p1 p2 payload onSent s) := by
  rcases cmdTxStep_cases opcode p1 p2 payload onSent s with ⟨_, hr⟩ | ⟨_, hr⟩ <;> rw [hr]
  · exact (transmitCommand_event hp).andThen (hsent _)
  · exact (transmitCommand_event hp).andThen (records_finish _ _ _)

/-- An attempt of `frame_recv` is one read, however it ends (R155). -/
theorem recvStep_event {k : Nat} {onFail : ErrCode → State → State} {onPayload : List Byte → State → State}
    (hk : within → 3 ≤ k ∧ k ≤ 255) (hfail : ∀ c u, Records [] u (onFail c u))
    (hload : ∀ d u, Records [] u (onPayload d u)) : AtMostOneEvent within s (recvStep k onFail onPayload s) := by
  have hread : AtMostOneEvent within s (receiveBytes k (nextAnswer s) (takeAnswer s)) :=
    .event _ (records_receiveBytes k _ s) fun hw => ⟨rfl, hk hw⟩
  rcases recvStep_cases k onFail onPayload s with
    ⟨_, hr⟩ | ⟨_, _, hr⟩ | ⟨_, _, hr⟩ | ⟨_, c, _, hr⟩ | ⟨_, d, _, hr⟩ <;> rw [hr]
  · exact hread.andThen (records_raiseFault _ _)
  · exact hread.andThen (hfail _ _)
  · exact hread
  · exact hread.andThen (hfail c _)
  · exact hread.andThen (hload d _)

/-- The ready check is one read of 4 bytes (R186). -/
theorem wakeRxStep_event {onReady : State → State} (hready : ∀ u, Records [] u (onReady u)) :
    AtMostOneEvent within s (wakeRxStep onReady s) := by
  refine recvStep_event (fun _ => by decide) (fun _ => records_finish _ _) fun d u => ?_
  split
  · exact hready u
  · exact records_finish _ _ u

/-- RESP_RX of an exchange is one read (R190). -/
theorem respRxStep_event {n : Byte} {sc : Bool} {onData : List Byte → State → State}
    (hk : within → 3 ≤ requestLength n ∧ requestLength n ≤ 255) (hdata : ∀ d u, Records [] u (onData d u)) :
    AtMostOneEvent within s (respRxStep n sc onData s) := by
  refine recvStep_event hk (fun c => records_finish c []) fun d u => ?_
  split
  · exact records_finish _ d u
  · exact hdata d u

end Rows

/-! ## Every step -/

/-- Each row of R197's table is at most one event, allowed where the operation is within its limits (R114). -/
theorem phaseStep_event (op : Instr) (p : Phase) (s t : State) (h : phaseStep op p s = some t) :
    AtMostOneEvent (withinLimits s.params op = true) s t := by
  have hread : ∀ k, receiveLength op .respRx = some k → withinLimits s.params op = true → 3 ≤ k ∧ k ≤ 255 :=
    fun k hk hl => receiveLength_bounds _ op .respRx k hl hk
  cases op with
  | crc bytes =>
    cases p with
    | crcRun => cases h; exact .quiet ⟨rfl, le_rfl, rfl⟩
    | _ => cases h
  | send opcode p1 p2 payload =>
    cases p with
    | cmdTx => cases h; exact cmdTxStep_event of_decide_eq_true (records_finish _ _)
    | _ => cases h
  | recv n =>
    cases p with
    | respRx => cases h; exact recvStep_event (hread _ rfl) (fun c => records_finish c []) (records_finish _)
    | _ => cases h
  | wake =>
    cases p with
    | wakeTx => cases h; exact wakeTxStep_event
    | wakeSettle => cases h; exact wakeSettleStep_event
    | wakeRx => cases h; exact wakeRxStep_event (records_finish _ _)
    | _ => cases h
  | idle =>
    cases p with
    | idleTx => cases h; exact transmitIdle_event.andThen (records_wordOutcome _ _)
    | _ => cases h
  | sleep =>
    cases p with
    | sleepTx => cases h; exact transmitSleep_event.andThen (records_wordOutcome _ _)
    | _ => cases h
  | wait t =>
    cases p with
    | delay => cases h; exact (delayMs_event _).andThen (records_finish _ _ _)
    | _ => cases h
  | exch opcode p1 p2 settle n sc payload =>
    cases p with
    | cmdTx => cases h; exact cmdTxStep_event payload_le_of_exch (records_setPhase _)
    | settle => cases h; exact (delayMs_event _).andThen (records_enterRecv _ _)
    | respRx => cases h; exact respRxStep_event (hread _ rfl) (records_finish _)
    | _ => cases h
  | xact opcode p1 p2 settle n sc drain payload =>
    cases p with
    | wakeTx => cases h; exact wakeTxStep_event
    | wakeSettle => cases h; exact wakeSettleStep_event
    | wakeRx => cases h; exact wakeRxStep_event (records_setPhase _)
    | cmdTx => cases h; exact cmdTxStep_event payload_le_of_xact (records_setPhase _)
    | settle => cases h; exact (delayMs_event _).andThen (records_enterRecv _ _)
    | respRx => cases h; exact respRxStep_event (hread _ rfl) fun _ => records_setPhase _
    | drain => cases h; exact (delayMs_event _).andThen (records_setPhase _ _)
    | idleTx => cases h; exact transmitIdle_event.andThen (records_finish _ _ _)
    | _ => cases h
  | _ => cases h

/-- A wire format is one event, allowed within the row's own bound (R90, R161; log entry 16). -/
theorem wireStep_event {within : Prop} (i : Instr) (s t : State) (h : wireStep i s = some t) :
    AtMostOneEvent within s t := by
  cases i with
  | wCmd opcode p1 p2 payload =>
    simp only [wireStep, Option.ite_none_right_eq_some, Option.some.injEq] at h
    obtain ⟨hb, rfl⟩ := h
    exact transmitCommand_event fun _ => hb
  | wRsp payload =>
    simp only [wireStep, Option.ite_none_right_eq_some, Option.some.injEq] at h
    obtain ⟨hb, rfl⟩ := h
    have hread : AtMostOneEvent within s
        (recordRead s.params.devAddr (payload.length + 3) (responseFrame payload) s) :=
      .event _ (records_recordRead _ _ _ s) fun _ => ⟨rfl, Nat.le_add_left _ _, by omega⟩
    exact hread.andThen (records_storeBytes _ _ _)
  | wIdle => cases h; exact transmitIdle_event
  | wSleep => cases h; exact transmitSleep_event
  | wWake => cases h; exact transmitWake_event
  | _ => cases h

/-- A move of the engine is at most one event; the invariant keeps the operation in progress within its limits. -/
theorem engineMove_event {s t : State} (h : EngineMove s t) : AtMostOneEvent (EngineInv s) s t := by
  obtain ⟨r, rfl⟩ | ⟨_, op, _, _, _, rfl⟩ | ⟨hp, op, _, hop, hstep⟩ := h
  · exact .quiet (records_raiseFault r s)
  · exact .quiet (records_accepted op s)
  · exact (phaseStep_event op _ s t hstep).mono fun hs => (working_of_engineInv hs hop hp).1.limits

/-- The host's bookkeeping before a move of the engine changes nothing of what the move records. -/
theorem AtMostOneEvent.ofOutside {s t : State} {h : HostAgent} {i : List Input}
    (k : AtMostOneEvent (EngineInv { s with host := h, inbox := i }) { s with host := h, inbox := i } t) :
    AtMostOneEvent (EngineInv s) s t :=
  (AtMostOneEvent.after (records_outside s s.device h i) k).mono (sameEngine_outside s _ _ _ h i).engineInv

theorem engineTurn_event {s t : State} (h : engineTurn s = .next t) : AtMostOneEvent (EngineInv s) s t := by
  obtain ⟨_, ⟨_, rfl⟩ | ⟨_, l, _, rfl⟩ | ⟨_, l, rest, _, hm⟩ | ⟨_, op, _, hm | hw⟩⟩ := engineTurn_moves s t h
  · exact .quiet (records_outside _ _ _ _)
  · exact .quiet (records_outside _ _ _ _)
  · exact .ofOutside (engineMove_event hm)
  · exact engineMove_event hm
  · exact wireStep_event op s t hw

/-- Every step is at most one event, and under the invariant an allowed one. -/
theorem step_event {s t : State} (h : step s = .next t) : AtMostOneEvent (EngineInv s) s t := by
  have hpop : Records [] s (popInbox s) := records_outside s _ _ _
  rcases step_moves s t h with ⟨_, ht⟩ | ⟨_, _, ht⟩ | ⟨_, _, _, _, hm⟩ | ⟨_, _, _, rfl⟩ | ⟨_, _, _, _, rfl⟩ |
    ⟨_, rfl⟩ | ⟨_, _, rfl⟩ | ⟨_, _, rfl⟩ | ⟨_, _, rfl⟩ | ⟨_, _, rfl⟩
  · exact engineTurn_event ht
  · exact .ofOutside (engineTurn_event ht)
  · exact .ofOutside (engineMove_event hm)
  · exact .quiet (records_outside _ _ _ _)
  · exact .quiet (records_outside _ _ _ _)
  · exact .quiet (hpop.trans (records_raiseFault _ _))
  · exact .event _ (hpop.trans (records_busInit _)) fun _ => rfl
  · exact .quiet (hpop.trans (records_engineReset _))
  · exact .quiet (records_outside _ _ _ _)
  · exact .quiet (records_outside _ _ _ _)

end Sys2Proof.Machine

namespace Sys2Proof.HistoryProofs

open Machine Safety

/-- Settles O8: what comes in front of an allowed history is nothing, or an event that the invariant makes allowed. -/
theorem stepKeepsTheHistoryAllowed : Obligations.StepKeepsTheHistoryAllowed := by
  intro s t hinv hist h
  cases step_event h with
  | quiet records => exact records.historyAllowed hist (List.forall_mem_nil _)
  | event e records allowed => exact records.historyAllowed hist (List.forall_mem_singleton.2 (allowed hinv))

/-- Settles O7: the count and the time need no invariant. -/
theorem stepAddsAtMostOneEvent : Obligations.StepAddsAtMostOneEvent := by
  intro s t h
  cases step_event h with
  | quiet records => exact ⟨.inl records.events, records.time⟩
  | event e records _ => exact ⟨.inr ⟨e, records.events⟩, records.time⟩

end Sys2Proof.HistoryProofs
end

section
/-! PROOF. The decoder and the encoder are inverse to each other. What each layout's decoder accepts is said once as an
`↔` (`decodeCrc_ok_iff` and its like), of which `decode_encode` takes one direction and `encode_of_decode` the other. -/

namespace Sys2Proof

open Machine

/-! ## Byte order, the length byte and the flags byte -/

@[simp] theorem lo8_le16 (a b : Byte) : lo8 (le16 a b) = a := by
  apply BitVec.eq_of_getLsbD_eq
  intro i hi
  simp [lo8, le16, hi, show i < 16 by omega]

@[simp] theorem hi8_le16 (a b : Byte) : hi8 (le16 a b) = b := by
  apply BitVec.eq_of_getLsbD_eq
  intro i hi
  simp [hi8, le16, hi, show 8 + i < 16 by omega]

/-- A length byte counts the bytes that follow it where it can hold their number (R104, R105, R109, R110). -/
theorem length_eq_toNat_iff (payload : List Byte) (len : Byte) :
    payload.length = len.toNat ↔ payload.length ≤ 255 ∧ len = lengthByte payload := by
  rw [lengthByte, ← BitVec.toNat_inj, BitVec.toNat_ofNat]
  have := len.isLt
  omega

/-- A flags byte without reserved bits is that of its `STATUS_CHECK` (R111). -/
theorem flagsReserved_eq_zero_iff (flags : Byte) :
    flagsReserved flags = 0#8 ↔ flags = flagsByte (flagsStatusCheck flags) := by
  revert flags; decide

@[simp] theorem flagsStatusCheck_flagsByte (sc : Bool) : flagsStatusCheck (flagsByte sc) = sc := by
  cases sc <;> rfl

/-- The condition of R111 on n, as `Instr.wf` has it. -/
theorem statusCheckLength_iff (sc : Bool) (n : Byte) : (!sc || n == 1#8) = true ↔ (sc = true → n = 1#8) := by
  cases sc <;> simp

/-- What passes the checks of R111. -/
theorem checkFlags_ok_iff (flags n : Byte) (i j : Instr) :
    checkFlags flags n i = .ok j ↔
      flags = flagsByte (flagsStatusCheck flags) ∧ (flagsStatusCheck flags = true → n = 1#8) ∧ i = j := by
  unfold checkFlags
  rw [← flagsReserved_eq_zero_iff]
  split
  · simp [*]
  · split
    · simp_all
    · simp_all

/-! ## What each layout's decoder accepts -/

theorem decodeCrc_ok_iff (rest : List Byte) (i : Instr) :
    decodeCrc rest = .ok i ↔
      ∃ bytes : List Byte, bytes.length ≤ 255 ∧ i = .crc bytes ∧ rest = lengthByte bytes :: bytes := by
  constructor
  · intro h
    unfold decodeCrc at h
    split at h
    · split at h <;> cases h
      rename_i hlen
      obtain ⟨hle, rfl⟩ := (length_eq_toNat_iff _ _).1 hlen
      exact ⟨_, hle, rfl, rfl⟩
    · cases h
  · rintro ⟨bytes, hle, rfl, rfl⟩
    exact if_pos ((length_eq_toNat_iff _ _).2 ⟨hle, rfl⟩)

theorem decodeSend_ok_iff (rest : List Byte) (i : Instr) :
    decodeSend rest = .ok i ↔
      ∃ opcode p1 p2, ∃ payload : List Byte, payload.length ≤ 255 ∧ i = .send opcode p1 p2 payload ∧
        rest = opcode :: p1 :: lo8 p2 :: hi8 p2 :: lengthByte payload :: payload := by
  constructor
  · intro h
    unfold decodeSend at h
    split at h
    · split at h <;> cases h
      rename_i hlen
      obtain ⟨hle, rfl⟩ := (length_eq_toNat_iff _ _).1 hlen
      exact ⟨_, _, _, _, hle, rfl, by simp⟩
    · cases h
  · rintro ⟨opcode, p1, p2, payload, hle, rfl, rfl⟩
    simp [decodeSend, (length_eq_toNat_iff _ _).2 ⟨hle, rfl⟩]

theorem decodeRecv_ok_iff (rest : List Byte) (i : Instr) :
    decodeRecv rest = .ok i ↔ ∃ n, i = .recv n ∧ rest = [n] := by
  constructor
  · intro h
    unfold decodeRecv at h
    split at h <;> cases h
    exact ⟨_, rfl, rfl⟩
  · rintro ⟨n, rfl, rfl⟩; rfl

theorem decodeBare_ok_iff (op : Instr) (rest : List Byte) (i : Instr) :
    decodeBare op rest = .ok i ↔ i = op ∧ rest = [] := by
  constructor
  · intro h
    unfold decodeBare at h
    split at h <;> cases h
    exact ⟨rfl, rfl⟩
  · rintro ⟨rfl, rfl⟩; rfl

theorem decodeWait_ok_iff (rest : List Byte) (i : Instr) :
    decodeWait rest = .ok i ↔ ∃ t, i = .wait t ∧ rest = [lo8 t, hi8 t] := by
  constructor
  · intro h
    unfold decodeWait at h
    split at h <;> cases h
    exact ⟨_, rfl, by simp⟩
  · rintro ⟨t, rfl, rfl⟩
    simp [decodeWait]

theorem decodeExch_ok_iff (rest : List Byte) (i : Instr) :
    decodeExch rest = .ok i ↔
      ∃ opcode p1 p2 settle n sc, ∃ payload : List Byte, payload.length ≤ 255 ∧ (sc = true → n = 1#8) ∧
        i = .exch opcode p1 p2 settle n sc payload ∧
        rest = opcode :: p1 :: lo8 p2 :: hi8 p2 :: lo8 settle :: hi8 settle :: n :: flagsByte sc ::
          lengthByte payload :: payload := by
  constructor
  · intro h
    unfold decodeExch at h
    split at h
    · split at h
      · rename_i hlen
        obtain ⟨hle, rfl⟩ := (length_eq_toNat_iff _ _).1 hlen
        obtain ⟨hflags, hsc, rfl⟩ := (checkFlags_ok_iff ..).1 h
        exact ⟨_, _, _, _, _, _, _, hle, hsc, rfl, by simp [← hflags]⟩
      · cases h
    · cases h
  · rintro ⟨opcode, p1, p2, settle, n, sc, payload, hle, hsc, rfl, rfl⟩
    simpa [decodeExch, (length_eq_toNat_iff _ _).2 ⟨hle, rfl⟩, checkFlags_ok_iff] using hsc

theorem decodeXact_ok_iff (rest : List Byte) (i : Instr) :
    decodeXact rest = .ok i ↔
      ∃ opcode p1 p2 settle n sc drain, ∃ payload : List Byte, payload.length ≤ 255 ∧ (sc = true → n = 1#8) ∧
        i = .xact opcode p1 p2 settle n sc drain payload ∧
        rest = opcode :: p1 :: lo8 p2 :: hi8 p2 :: lo8 settle :: hi8 settle :: n :: flagsByte sc :: drain ::
          lengthByte payload :: payload := by
  constructor
  · intro h
    unfold decodeXact at h
    split at h
    · split at h
      · rename_i hlen
        obtain ⟨hle, rfl⟩ := (length_eq_toNat_iff _ _).1 hlen
        obtain ⟨hflags, hsc, rfl⟩ := (checkFlags_ok_iff ..).1 h
        exact ⟨_, _, _, _, _, _, _, _, hle, hsc, rfl, by simp [← hflags]⟩
      · cases h
    · cases h
  · rintro ⟨opcode, p1, p2, settle, n, sc, drain, payload, hle, hsc, rfl, rfl⟩
    simpa [decodeXact, (length_eq_toNat_iff _ _).2 ⟨hle, rfl⟩, checkFlags_ok_iff] using hsc

/-! ## What `decode` accepts -/

/-- The codes of R113 are read as the reserved operation, whatever follows. -/
theorem decode_of_reserved (op : Byte) (rest : List Byte) (h : op = 0x00#8 ∨ 0x0A ≤ op.toNat) :
    decode (op :: rest) = .ok (.reserved op rest) := by
  have hlow : op.toNat = 0 ∨ 10 ≤ op.toNat := h.imp_left fun h0 => by rw [h0]; rfl
  simp only [decode]
  split
  case h_10 => rfl
  all_goals omega

/-- A host operation that a descriptor can carry, or a reserved one (R103, R113). -/
def IsDescribable (i : Instr) : Prop := i.wf = true ∧ (i.isHostOp = true ∨ ∃ op rest, i = .reserved op rest)

/-- The descriptor of every such operation is read as that operation. -/
theorem decode_encode (p : Config.Params) (i : Instr) (h : IsDescribable i) : decode (encode p i) = .ok i := by
  obtain ⟨hw, hk⟩ := h
  cases i with
  | crc bytes => exact (decodeCrc_ok_iff _ _).2 ⟨bytes, of_decide_eq_true hw, rfl, rfl⟩
  | send opcode p1 p2 payload =>
    exact (decodeSend_ok_iff _ _).2 ⟨opcode, p1, p2, payload, of_decide_eq_true hw, rfl, rfl⟩
  | recv n => exact (decodeRecv_ok_iff _ _).2 ⟨n, rfl, rfl⟩
  | wake => exact (decodeBare_ok_iff _ _ _).2 ⟨rfl, rfl⟩
  | idle => exact (decodeBare_ok_iff _ _ _).2 ⟨rfl, rfl⟩
  | sleep => exact (decodeBare_ok_iff _ _ _).2 ⟨rfl, rfl⟩
  | wait t => exact (decodeWait_ok_iff _ _).2 ⟨t, rfl, rfl⟩
  | exch opcode p1 p2 settle n sc payload =>
    simp only [Instr.wf, Bool.and_eq_true, decide_eq_true_eq, statusCheckLength_iff] at hw
    obtain ⟨hle, hsc⟩ := hw
    exact (decodeExch_ok_iff _ _).2 ⟨opcode, p1, p2, settle, n, sc, payload, hle, hsc, rfl, rfl⟩
  | xact opcode p1 p2 settle n sc drain payload =>
    simp only [Instr.wf, Bool.and_eq_true, decide_eq_true_eq, statusCheckLength_iff] at hw
    obtain ⟨hle, hsc⟩ := hw
    exact (decodeXact_ok_iff _ _).2 ⟨opcode, p1, p2, settle, n, sc, drain, payload, hle, hsc, rfl, rfl⟩
  | reserved op rest =>
    simp only [Instr.wf, Bool.or_eq_true, beq_iff_eq, decide_eq_true_eq] at hw
    exact decode_of_reserved op rest hw
  | _ => simp [Instr.isHostOp] at hk

/-- What is read is such an operation, and the bytes are its descriptor: the operation code is fixed by the arm that
reads it, and the rest by the layout. -/
theorem encode_of_decode (p : Config.Params) (d : List Byte) (i : Instr) (h : decode d = .ok i) :
    encode p i = d ∧ IsDescribable i := by
  unfold decode at h
  split at h
  · cases h
  rename_i op rest
  have hcode : ∀ c : Byte, op.toNat = c.toNat → op = c := fun c => BitVec.eq_of_toNat_eq
  split at h
  case h_1 hop =>
    obtain rfl := hcode 0x01#8 hop
    obtain ⟨bytes, hle, rfl, rfl⟩ := (decodeCrc_ok_iff _ _).1 h
    exact ⟨rfl, decide_eq_true hle, .inl rfl⟩
  case h_2 hop =>
    obtain rfl := hcode 0x02#8 hop
    obtain ⟨_, _, _, payload, hle, rfl, rfl⟩ := (decodeSend_ok_iff _ _).1 h
    exact ⟨rfl, decide_eq_true hle, .inl rfl⟩
  case h_3 hop =>
    obtain rfl := hcode 0x03#8 hop
    obtain ⟨n, rfl, rfl⟩ := (decodeRecv_ok_iff _ _).1 h
    exact ⟨rfl, rfl, .inl rfl⟩
  case h_4 hop =>
    obtain rfl := hcode 0x04#8 hop
    obtain ⟨rfl, rfl⟩ := (decodeBare_ok_iff _ _ _).1 h
    exact ⟨rfl, rfl, .inl rfl⟩
  case h_5 hop =>
    obtain rfl := hcode 0x05#8 hop
    obtain ⟨rfl, rfl⟩ := (decodeBare_ok_iff _ _ _).1 h
    exact ⟨rfl, rfl, .inl rfl⟩
  case h_6 hop =>
    obtain rfl := hcode 0x06#8 hop
    obtain ⟨rfl, rfl⟩ := (decodeBare_ok_iff _ _ _).1 h
    exact ⟨rfl, rfl, .inl rfl⟩
  case h_7 hop =>
    obtain rfl := hcode 0x07#8 hop
    obtain ⟨t, rfl, rfl⟩ := (decodeWait_ok_iff _ _).1 h
    exact ⟨rfl, rfl, .inl rfl⟩
  case h_8 hop =>
    obtain rfl := hcode 0x08#8 hop
    obtain ⟨_, _, _, _, n, sc, payload, hle, hsc, rfl, rfl⟩ := (decodeExch_ok_iff _ _).1 h
    exact ⟨rfl, by simpa [Instr.wf, hle] using (statusCheckLength_iff sc n).2 hsc, .inl rfl⟩
  case h_9 hop =>
    obtain rfl := hcode 0x09#8 hop
    obtain ⟨_, _, _, _, n, sc, _, payload, hle, hsc, rfl, rfl⟩ := (decodeXact_ok_iff _ _).1 h
    exact ⟨rfl, by simpa [Instr.wf, hle] using (statusCheckLength_iff sc n).2 hsc, .inl rfl⟩
  case h_10 =>
    cases h
    have hlow : op.toNat = 0 ∨ 10 ≤ op.toNat := by grind
    exact ⟨rfl, by simpa [Instr.wf] using hlow.imp_left (hcode 0#8), .inr ⟨op, rest, rfl⟩⟩

/-! ## The expansion of a pseudo-instruction (R122) -/

/-- An instruction that is no pseudo-instruction stands for itself. -/
theorem expand_of_isHostOp (p : Config.Params) (i : Instr) (h : i.isHostOp = true) : expand p i = i := by
  cases i <;> first | rfl | cases h

/-- A pseudo-instruction is an EXCH, whose response is far below the 252 bytes of R161 (R220 to R233). -/
theorem expand_of_isPseudo (p : Config.Params) (i : Instr) (h : i.isPseudo = true) :
    ∃ opcode p1 p2 settle, ∃ n : Byte, ∃ sc payload,
      expand p i = .exch opcode p1 p2 settle n sc payload ∧ n.toNat ≤ 252 := by
  cases i <;> first | exact ⟨_, _, _, _, _, _, _, rfl, by decide⟩ | cases h

/-- Every profile keeps R111's condition on n, and its payload fits the descriptor (R220 to R233). -/
theorem wf_expand (p : Config.Params) (i : Instr) (h : i.wf = true) : (expand p i).wf = true := by
  cases i with
  | nonce digest => simpa [expand, Instr.wf] using h
  | verify signature publicKey =>
    simp only [Instr.wf, Bool.and_eq_true, decide_eq_true_eq] at h
    simp [expand, Instr.wf, h]
  | write4 zone word data =>
    simp only [Instr.wf, decide_eq_true_eq] at h
    simp [expand, Instr.wf, h]
  | write32 zone word data =>
    simp only [Instr.wf, decide_eq_true_eq] at h
    simp [expand, Instr.wf, h]
  | _ => exact h

/-- A pseudo-instruction has the descriptor of its EXCH (R120, R122). -/
theorem encode_expand (p : Config.Params) (i : Instr) : encode p (expand p i) = encode p i := by
  cases i <;> rfl

/-- The descriptor of an assembler line decodes to what the line stands for (R120, R122). -/
theorem decode_encode_expand (p : Config.Params) (i : Instr) (hw : i.wf = true)
    (hk : i.isHostOp = true ∨ i.isPseudo = true) : decode (encode p i) = .ok (expand p i) := by
  have hop : (expand p i).isHostOp = true := by
    rcases hk with hk | hk
    · rw [expand_of_isHostOp p i hk]; exact hk
    · exact isHostOp_expand p i hk
  rw [← encode_expand]
  exact decode_encode p _ ⟨wf_expand p i hw, .inl hop⟩

end Sys2Proof

namespace Sys2Proof.EncodingProofs

/-- Settles O46, layout by layout. -/
theorem descriptorsDecodeToTheirOperation : Obligations.DescriptorsDecodeToTheirOperation :=
  fun p i hw hk => decode_encode p i ⟨hw, hk⟩

/-- Settles O47: the operation code and the layout fix every byte. -/
theorem decodedDescriptorsEncodeBack : Obligations.DecodedDescriptorsEncodeBack :=
  encode_of_decode

/-- Settles O48: the descriptor is that of the EXCH, a well-formed host operation. -/
theorem pseudoDescriptorsDecodeToTheirExchange : Obligations.PseudoDescriptorsDecodeToTheirExchange :=
  fun p i hw hk => decode_encode_expand p i hw (.inr hk)

/-- Settles O50: each is the descriptor of its operation, written out. -/
theorem writtenOutDescriptorsDecode : Obligations.WrittenOutDescriptorsDecode :=
  ⟨rfl, rfl, rfl, rfl, rfl⟩

end Sys2Proof.EncodingProofs
end

section
/-! PROOF. The statements about issuing: which instruction a descriptor or a line of a listing runs, the faults of what
cannot be accepted, the pseudo-instructions and the wire formats as instructions, and the listing's bookkeeping. -/

namespace Sys2Proof.Machine

open Safety

/-! ## A descriptor that arrives -/

theorem popInbox_of_cons {s : State} {i : Input} {rest : List Input} (h : s.inbox = i :: rest) :
    popInbox s = { s with inbox := rest } := by
  rw [popInbox, h]; rfl

theorem step_of_issue {s : State} {d : List Byte} {rest : List Input} (h : s.inbox = .issue d :: rest) :
    step s = issueDescriptor d { s with inbox := rest } := by
  rw [step_of_cons s _ _ h, popInbox_of_cons h]; rfl

/-- In READY a descriptor runs the instruction that it decodes to (R103). -/
theorem issueDescriptor_of_ready {s : State} {d : List Byte} {i : Instr} (h : Ready s) (hd : decode d = .ok i) :
    issueDescriptor d s = exec i s := by
  simp [issueDescriptor, h.1, h.2, hd]

theorem exec_reserved {s : State} (op : Byte) (tail : List Byte) (hf : s.fault = false) :
    exec (.reserved op tail) s = .next (faulted .hostProtocol s) := by
  simp only [exec, execReserved, hf]; rfl

/-- A host operation that its descriptor can carry, with an operand beyond the limits (R114). -/
theorem exec_beyond_limits {op : Instr} {s : State} (h : Ready s) (hk : op.isHostOp = true) (hw : op.wf = true)
    (hl : withinLimits s.params op = false) : exec op s = .next (faulted .invariant s) := by
  rw [exec_of_ready op s hk h, accept, hw, hl]; rfl

/-- The two checks of EXCH's and XACT's operands where P or n is beyond its limit: a descriptor can carry them (R111), and
R114 rejects them. -/
theorem operands_beyond {p : Config.Params} {n : Byte} {sc : Bool} {payload : List Byte} (hp : payload.length ≤ 255)
    (hs : sc = true → n = 1#8) (hb : p.maxPayload < payload.length ∨ 252 < n.toNat) :
    (decide (payload.length ≤ 255) && (!sc || n == 1#8)) = true ∧
      (decide (payload.length ≤ p.maxPayload) && decide (n.toNat ≤ Config.MAX_EXPECTED)) = false := by
  have hmax : Config.MAX_EXPECTED = 252 := rfl
  refine ⟨by rw [(statusCheckLength_iff sc n).2 hs, decide_eq_true hp]; rfl, ?_⟩
  rw [Bool.and_eq_false_iff, decide_eq_false_iff_not, decide_eq_false_iff_not]
  omega

/-! ## The response of an exchange -/

/-- An attempt that returns a valid frame hands its payload on (R155, R160). -/
theorem recvStep_of_responseFrame (onFail : ErrCode → State → State) (onPayload : List Byte → State → State)
    {s : State} {data : List Byte} (hd : data.length ≤ 252) (ha : nextAnswer s = responseFrame data) :
    recvStep (data.length + 3) onFail onPayload s =
      onPayload data (fullAttempt (data.length + 3) (responseFrame data) s) := by
  have hlen := length_responseFrame data
  have hvalid := validateFrame_responseFrame data hd
  rw [← receiveBytes_eq_fullAttempt _ _ s hlen, ← ha]
  rw [← ha] at hlen hvalid
  rcases recvStep_cases (data.length + 3) onFail onPayload s with
    ⟨h, _⟩ | ⟨h, _⟩ | ⟨h, _⟩ | ⟨_, c, hv, _⟩ | ⟨_, d, hv, hr⟩
  · omega
  · omega
  · omega
  · rw [hvalid] at hv; cases hv
  · rw [hvalid] at hv; cases hv
    exact hr

/-- The last step of an exchange that reads a valid frame: OK, or DEVICE_STATUS where the status is checked and is not
zero (R190). -/
theorem respRxStep_of_responseFrame {s : State} {n : Byte} {data : List Byte} (sc : Bool) (hn : n.toNat ≤ 252)
    (hd : data.length = n.toNat) (ha : nextAnswer s = responseFrame data) :
    respRxStep n sc (finish .ok) s =
      completed (if sc = true ∧ data.getD 0 0#8 ≠ 0x00#8 then 0x30#8 else 0x00#8) data
        (fullAttempt (n.toNat + 3) (responseFrame data) s) := by
  have hk : requestLength n = data.length + 3 := by rw [hd]; rfl
  rw [respRxStep, hk, recvStep_of_responseFrame _ _ (hd ▸ hn) ha, hd]
  by_cases hs : sc = true ∧ data.getD 0 0#8 ≠ 0x00#8
  · have : (sc && !statusAccepted data) = true := by simpa [statusAccepted] using hs
    rw [if_pos this, if_pos hs]; rfl
  · have : ¬ (sc && !statusAccepted data) = true := by simpa [statusAccepted] using hs
    rw [if_neg this, if_neg hs]; rfl

/-! ## The wire formats -/

theorem onBus_of_unfaulted (f : State → State) {s : State} (hf : s.fault = false) : onBus f s = .next (f s) := by
  simp [onBus, hf]

/-! ## The host's turn (R121) -/

theorem step_of_ready {s : State} (h : Ready s) (hi : s.inbox = []) : step s = hostTurn s := by
  rw [step_of_empty s hi, engineTurn_of_ready s h]

theorem hostTurn_of_inFlight {s : State} {l : Line} (h : s.host.inFlight = some l) :
    hostTurn s = .next (collectResult l s) := by
  simp only [hostTurn, h]

theorem hostTurn_of_line {s : State} {l : Line} {rest : List Line} (h : s.host.inFlight = none)
    (hs : s.host.stopped = none) (hp : s.host.program = l :: rest) :
    hostTurn s = issueDescriptor (lineDescriptor s.params l) (takeLine l rest s) := by
  simp only [hostTurn, h, hs, hp]

theorem hostTurn_of_stopped {s : State} {c : Byte} (h : s.host.inFlight = none) (hs : s.host.stopped = some c) :
    hostTurn s = .next s := by
  simp only [hostTurn, h, hs]

theorem hostTurn_of_ended {s : State} (h : HostIdle s) : hostTurn s = .next s := by
  obtain ⟨hl, hp⟩ := h
  simp only [hostTurn, hl, hp]
  cases s.host.stopped <;> rfl

/-! ## What a line's result holds (R12, R121) -/

/-- The descriptors of the instructions of R103 and R122 begin with CRC's code for CRC alone. -/
theorem head?_encode_eq_crc_iff (p : Config.Params) (i : Instr) (hk : i.isHostOp = true ∨ i.isPseudo = true) :
    (encode p i).head? = some 0x01#8 ↔ ∃ bytes, i = .crc bytes := by
  rcases hk with hk | hk
  · cases i with
    | crc bytes => exact iff_of_true rfl ⟨bytes, rfl⟩
    | _ => simp [encode, expand, encodeCore, encodeExch, Instr.isHostOp] at hk ⊢
  · obtain ⟨_, _, _, _, _, _, _, hexch, _⟩ := expand_of_isPseudo p i hk
    have hnot : ∀ bytes, i ≠ .crc bytes := by rintro bytes rfl; cases hk
    simp [encode, hexch, encodeCore, encodeExch, hnot]

theorem lineIsCrc_of_assembly {l : Line} {i : Instr} (p : Config.Params) (h : l.op = .assembly i)
    (hk : i.isHostOp = true ∨ i.isPseudo = true) : lineIsCrc p l = true ↔ ∃ bytes, i = .crc bytes := by
  simp only [lineIsCrc, lineDescriptor, h, decide_eq_true_eq]
  exact head?_encode_eq_crc_iff p i hk

theorem lineResult_crc_of_raw {l : Line} {op : Byte} {tail : List Byte} (s : State) (h : l.op = .raw (op :: tail)) :
    (lineResult l s).crc = if op = 0x01#8 then s.crcOut else none := by
  simp [lineResult, lineIsCrc, lineDescriptor, h]

/-- A line's failure stops the listing unless the line is marked `?` (R121). -/
theorem collectResult_stopped {l : Line} {s : State} {c : Byte} {d : Option (List Byte)}
    (h : s.result = ⟨true, some c, d⟩) :
    (collectResult l s).host.stopped = if l.bestEffort = true ∨ c = 0x00#8 then none else some c := by
  simp only [collectResult_host, h, failureOf]
  cases l.bestEffort <;> simp

end Sys2Proof.Machine

namespace Sys2Proof.IssueProofs

open Machine Safety

/-- Settles O25: the line's descriptor decodes to the host operation or to the EXCH of the pseudo-instruction, which does
what the pseudo-instruction does. -/
theorem listingLinesRunTheirInstruction : Obligations.ListingLinesRunTheirInstruction := by
  intro s i mark rest hready hi hflight hstop hprog hw hk
  have hready' : Ready (takeLine ⟨.assembly i, mark⟩ rest s) := hready
  rw [step_of_ready hready hi, hostTurn_of_line hflight hstop hprog]
  exact (issueDescriptor_of_ready hready' (decode_encode_expand s.params i hw hk)).trans
    (exec_expand i (takeLine _ rest s))

/-- Settles O19: each EXCH written out is the expansion of its pseudo-instruction. -/
theorem pseudoInstructionsAreTheirExchanges : Obligations.PseudoInstructionsAreTheirExchanges := by
  intro s
  have hexpand : ∀ i, exec i s = exec (expand s.params i) s := fun i => (exec_expand i s).symm
  exact ⟨hexpand .random, fun slot => hexpand (.genkeyCreate slot), fun slot => hexpand (.genkeyPublic slot),
    fun digest => hexpand (.nonce digest), fun slot => hexpand (.sign slot), fun sig pub => hexpand (.verify sig pub),
    fun zone word => hexpand (.read4 zone word), fun zone word => hexpand (.read32 zone word),
    fun zone word data => hexpand (.write4 zone word data), fun zone word data => hexpand (.write32 zone word data),
    hexpand .lockConfig, hexpand .lockData, hexpand .info⟩

/-- Settles O20: the descriptor carries the operands, and the limits reject them. -/
theorem oversizedOperandsTakeTheInvariantFault : Obligations.OversizedOperandsTakeTheInvariantFault := by
  intro s hready
  refine ⟨fun opcode p1 p2 payload hp hb => ?_, fun n hn => ?_, fun opcode p1 p2 settle n sc payload hp hs hb => ?_,
    fun opcode p1 p2 settle n sc drain payload hp hs hb => ?_⟩
  · exact exec_beyond_limits hready rfl (decide_eq_true hp) (decide_eq_false (Nat.not_le.2 hb))
  · exact exec_beyond_limits hready rfl rfl (decide_eq_false (Nat.not_le.2 hn))
  · obtain ⟨hw, hl⟩ := operands_beyond hp hs hb
    exact exec_beyond_limits hready rfl hw hl
  · obtain ⟨hw, hl⟩ := operands_beyond hp hs hb
    exact exec_beyond_limits hready rfl hw hl

/-- Settles O22: a reserved code is read as the reserved operation, and what does not decode is a fault at once. -/
theorem malformedDescriptorsTakeTheProtocolFault : Obligations.MalformedDescriptorsTakeTheProtocolFault := by
  intro s d rest hready hi hd
  rw [step_of_issue hi]
  rcases hd with ⟨op, tail, rfl, hop⟩ | ⟨e, he⟩
  · have hready' : Ready { s with inbox := rest } := hready
    rw [issueDescriptor_of_ready hready' (decode_of_reserved op tail hop)]
    exact exec_reserved op tail hready.1
  · simp only [issueDescriptor, hready.1, hready.2, he]
    rfl

/-- Settles O23. -/
theorem reservedOperationTakesTheProtocolFault : Obligations.ReservedOperationTakesTheProtocolFault :=
  fun _ op tail hf => exec_reserved op tail hf

/-- Settles O24: the descriptor's step in READY, and the engine's turn in progress. -/
theorem stepRunsTheDecodedInstruction : Obligations.StepRunsTheDecodedInstruction := by
  intro s
  refine ⟨fun d rest i hready hi hd => ?_, fun op p hphase hi => ?_⟩
  · have hready' : Ready { s with inbox := rest } := hready
    rw [step_of_issue hi, issueDescriptor_of_ready hready' hd]
  · rw [step_of_empty s hi, engineTurn_of_inPhase op p s hphase]

/-- Settles O41: executing it is executing its EXCH, whose RESP_RX step reads the valid frame. -/
theorem pseudoInstructionsComplete : Obligations.PseudoInstructionsComplete := by
  intro s i data opcode p1 p2 settle n sc payload hk hexpand hphase hd ha
  have hn : n.toNat ≤ 252 := by
    obtain ⟨_, _, _, _, _, _, _, hexch, hle⟩ := expand_of_isPseudo s.params i hk
    rw [hexpand] at hexch
    cases hexch
    exact hle
  rw [← exec_expand i s, exec_of_inPhase _ _ s (isHostOp_expand s.params i hk) hphase, hexpand]
  exact congrArg Host.Outcome.next (respRxStep_of_responseFrame sc hn hd ha)

/-- Settles O45: each row is its event within its bound, and the events are the effects the statement expects. -/
theorem wireFormatsComplete : Obligations.WireFormatsComplete := by
  intro s hf
  have hmax : Config.MAX_EXPECTED = 252 := rfl
  refine ⟨fun opcode p1 p2 payload hp => ?_, fun opcode p1 p2 payload hp => ?_, fun data hd => ?_, fun data hd => ?_,
    ?_, ?_, ?_⟩
  · rw [exec, execWCmd, onBus_of_unfaulted _ hf, decide_eq_true hp, bounded, if_pos rfl,
      transmitCommand_eq_commandWritten]
  · rw [exec, execWCmd, onBus_of_unfaulted _ hf, decide_eq_false (Nat.not_le.2 hp)]
    rfl
  · rw [exec, execWRsp, onBus_of_unfaulted _ hf, decide_eq_false (Nat.not_le.2 (hmax ▸ hd))]
    rfl
  · rw [exec, execWRsp, onBus_of_unfaulted _ hf, decide_eq_true (hmax ▸ hd), bounded, if_pos rfl,
      storeBytes_recordRead _ _ s (length_responseFrame data)]
  · rw [exec, execWIdle, onBus_of_unfaulted _ hf, transmitIdle_eq]
    rfl
  · rw [exec, execWSleep, onBus_of_unfaulted _ hf, transmitSleep_eq]
    rfl
  · rw [exec, execWWake, onBus_of_unfaulted _ hf]
    rfl

/-- Settles O52: the host takes the result of the line in progress; a stopped or ended listing leaves it nothing to do. -/
theorem programStopsAtItsFirstFailure : Obligations.ProgramStopsAtItsFirstFailure := by
  intro s hready hi
  rw [step_of_ready hready hi]
  refine ⟨fun l c d hflight hres => ?_, fun c hflight hstop => ?_, fun hidle hstop => ?_⟩
  · refine ⟨collectResult l s, lineResult l s, hostTurn_of_inFlight hflight, rfl, rfl, fun bytes hop => ?_,
      fun i hop hk hne => ?_, fun op tail hop => lineResult_crc_of_raw s hop, rfl, rfl, collectResult_stopped hres⟩
    · exact if_pos ((lineIsCrc_of_assembly s.params hop (.inl rfl)).2 ⟨bytes, rfl⟩)
    · exact if_neg fun hcrc => not_exists.2 hne ((lineIsCrc_of_assembly s.params hop hk).1 hcrc)
  · exact ⟨hostTurn_of_stopped hflight hstop, by simp [programOutcome, hready.1, hstop]⟩
  · exact ⟨hostTurn_of_ended hidle, by simp [programOutcome, hready.1, hstop, hidle.1, hidle.2]⟩

end Sys2Proof.IssueProofs
end

section
/-! PROOF. The algebra of the checksum: it is linear in the accumulator and the data, and a byte step can be undone, so
that a change of one byte always shows (40_checksum.md R138 to R141). -/

namespace Sys2Proof.Machine

/-! ## The bit step -/

/-- What a bit step adds after the shift: the polynomial, where the data bit and the top bit differ (R131). -/
def crcFeedback (differ : Bool) : U16 := if differ then Config.CRC_POLY else 0#16

theorem crcFeedback_xor (c d : Bool) : crcFeedback (c ^^ d) = crcFeedback c ^^^ crcFeedback d := by
  cases c <;> cases d <;> rfl

theorem crcBitStep_eq_feedback (acc : U16) (d : Bool) :
    crcBitStep acc d = acc <<< 1 ^^^ crcFeedback (d ^^ acc.getLsbD 15) := by
  simp only [crcBitStep, crcFeedback]
  cases d <;> cases acc.getLsbD 15 <;> simp

/-- A bit step is linear over GF(2) in the accumulator and the bit (R138). -/
@[simp] theorem crcBitStep_xor (a b : U16) (d e : Bool) :
    crcBitStep (a ^^^ b) (d ^^ e) = crcBitStep a d ^^^ crcBitStep b e := by
  simp only [crcBitStep_eq_feedback, BitVec.getLsbD_xor, BitVec.shiftLeft_xor_distrib, crcFeedback_xor]
  ac_rfl

/-- The lowest bit after a bit step says whether the XOR was made: the polynomial's constant term is 1. -/
theorem crcBitStep_getLsbD_zero (acc : U16) (d : Bool) :
    (crcBitStep acc d).getLsbD 0 = (d ^^ acc.getLsbD 15) := by
  have hfeedback : ∀ c : Bool, (crcFeedback c).getLsbD 0 = c := by decide
  rw [crcBitStep_eq_feedback, BitVec.getLsbD_xor, hfeedback]
  simp

/-- A bit step can be undone (R141): its lowest bit gives back the bit shifted out, the others the rest. -/
@[simp] theorem crcBitStep_left_inj (a b : U16) (d : Bool) : crcBitStep a d = crcBitStep b d ↔ a = b := by
  refine ⟨fun h => ?_, fun h => h ▸ rfl⟩
  have htop : a.getLsbD 15 = b.getLsbD 15 := by
    have h0 := congrArg (BitVec.getLsbD · 0) h
    simp only [crcBitStep_getLsbD_zero] at h0
    exact Bool.xor_right_inj.1 h0
  have hshift : a <<< 1 = b <<< 1 := by
    rw [crcBitStep_eq_feedback, crcBitStep_eq_feedback, htop] at h
    exact (BitVec.xor_left_inj _).1 h
  refine BitVec.eq_of_getLsbD_eq fun i hi => ?_
  rcases Nat.lt_succ_iff_lt_or_eq.1 hi with hi | rfl
  · have hi' : i + 1 < 16 := by omega
    simpa [hi', -BitVec.getLsbD_eq_getElem] using congrArg (BitVec.getLsbD · (i + 1)) hshift
  · exact htop

/-! ## The byte step -/

/-- A byte step is linear over GF(2) in the accumulator and the byte. -/
@[simp] theorem crcByte_xor (a b : U16) (x y : Byte) : crcByte (a ^^^ b) (x ^^^ y) = crcByte a x ^^^ crcByte b y := by
  simp only [crcByte, BitVec.getLsbD_xor, crcBitStep_xor]

/-- A byte step can be undone. -/
@[simp] theorem crcByte_left_inj (a b : U16) (x : Byte) : crcByte a x = crcByte b x ↔ a = b := by
  simp only [crcByte, crcBitStep_left_inj]

/-- From 0, the zero byte alone leads to 0. -/
theorem crcByte_zero_eq_zero_iff : ∀ x : Byte, crcByte 0#16 x = 0#16 ↔ x = 0#8 := by decide

/-- Different bytes lead from one accumulator to different ones. -/
@[simp] theorem crcByte_right_inj (a : U16) (x y : Byte) : crcByte a x = crcByte a y ↔ x = y := by
  rw [← BitVec.xor_eq_zero_iff, ← crcByte_xor, BitVec.xor_self, crcByte_zero_eq_zero_iff, BitVec.xor_eq_zero_iff]

/-! ## Sequences -/

/-- A computation over sequences of equal length is linear in where it starts and in the bytes (R138). -/
theorem foldl_crcByte_zipWith_xor (s : List Byte) : ∀ (t : List Byte) (a b : U16), s.length = t.length →
    (List.zipWith (· ^^^ ·) s t).foldl crcByte (a ^^^ b) = s.foldl crcByte a ^^^ t.foldl crcByte b := by
  induction s with
  | nil =>
    intro t a b h
    rw [List.eq_nil_of_length_eq_zero h.symm]
    rfl
  | cons x s ih =>
    intro t a b h
    cases t with
    | nil => cases h
    | cons y t =>
      rw [List.zipWith_cons_cons, List.foldl_cons, List.foldl_cons, List.foldl_cons, crcByte_xor]
      exact ih t _ _ (Nat.succ.inj h)

/-- The same bytes lead different accumulators to different ones (R141). -/
theorem foldl_crcByte_left_inj (s : List Byte) : ∀ a b : U16, s.foldl crcByte a = s.foldl crcByte b ↔ a = b := by
  induction s with
  | nil => intro a b; rfl
  | cons x s ih => intro a b; rw [List.foldl_cons, List.foldl_cons, ih, crcByte_left_inj]

/-- Zero bytes leave the checksum at its start (R139). -/
@[simp] theorem crc16_replicate_zero (k : Nat) : crc16 (List.replicate k 0x00#8) = 0x0000#16 := by
  induction k with
  | zero => rfl
  | succ k ih => rw [List.replicate_succ', crc16_append, ih]; rfl

/-- A change of one byte changes the checksum (R141): the accumulators differ after it, and stay different. -/
theorem crc16_set_ne {s : List Byte} {i : Nat} {b : Byte} (hi : i < s.length) (hb : b ≠ s[i]) :
    crc16 (s.set i b) ≠ crc16 s := by
  have hs : crc16 s = crc16 (s.take i ++ s[i] :: s.drop (i + 1)) := by
    rw [← List.drop_eq_getElem_cons hi, List.take_append_drop]
  rw [List.set_eq_take_append_cons_drop, if_pos hi, hs, crc16_append, crc16_append, List.foldl_cons, List.foldl_cons,
    Ne, foldl_crcByte_left_inj, crcByte_right_inj]
  exact hb

end Sys2Proof.Machine
end

section
/-! PROOF. What validation makes of bytes that are no valid frame, and how an attempt that reads them ends. -/

namespace Sys2Proof.Machine

open Safety

/-! ## A sequence with its checksum field -/

@[simp] theorem coveredBytes_append_checksum (body : List Byte) (lo hi : Byte) :
    coveredBytes (body.length + 2) (body ++ [lo, hi]) = body := by
  simp [coveredBytes]

@[simp] theorem receivedChecksum_append_checksum (body : List Byte) (lo hi : Byte) :
    receivedChecksum (body.length + 2) (body ++ [lo, hi]) = le16 lo hi := by
  simp [receivedChecksum]

/-- With any one byte changed, the checksum field no longer matches the covered bytes: the change shows in one of the
two and leaves the other (R141). -/
theorem receivedChecksum_ne_of_set {body : List Byte} {lo hi : Byte} (hok : le16 lo hi = crc16 body) {i : Nat}
    {b : Byte} (hi' : i < body.length + 2) (hb : b ≠ (body ++ [lo, hi]).getD i 0x00#8) :
    receivedChecksum (body.length + 2) ((body ++ [lo, hi]).set i b) ≠
      crc16 (coveredBytes (body.length + 2) ((body ++ [lo, hi]).set i b)) := by
  rcases Nat.lt_or_ge i body.length with h | h
  · have hb' : b ≠ body[i] := by simpa [List.getElem?_append_left h, h] using hb
    have hlen : body.length = (body.set i b).length := List.length_set.symm
    rw [List.set_append_left i b h, hlen, receivedChecksum_append_checksum, coveredBytes_append_checksum, hok]
    exact (crc16_set_ne h hb').symm
  · obtain rfl | rfl : i = body.length ∨ i = body.length + 1 := by omega
    · have hset : (body ++ [lo, hi]).set body.length b = body ++ [b, hi] := by simp
      have hb' : b ≠ lo := by simpa using hb
      rw [hset, receivedChecksum_append_checksum, coveredBytes_append_checksum, ← hok]
      exact fun h => hb' (by simpa using congrArg lo8 h)
    · have hset : (body ++ [lo, hi]).set (body.length + 1) b = body ++ [lo, b] := by simp
      have hb' : b ≠ hi := by simpa using hb
      rw [hset, receivedChecksum_append_checksum, coveredBytes_append_checksum, ← hok]
      exact fun h => hb' (by simpa using congrArg hi8 h)

/-- A response frame with any one byte changed does not validate (R141, R158). -/
theorem validateFrame_set_ne_ok {payload : List Byte} {i : Nat} {b : Byte} (hi : i < payload.length + 3)
    (hb : b ≠ (responseFrame payload).getD i 0x00#8) (d : List Byte) :
    validateFrame (payload.length + 3) ((responseFrame payload).set i b) ≠ .ok d := by
  intro hv
  obtain ⟨_, hcrc, _⟩ := (validateFrame_ok_iff ..).1 hv
  exact receivedChecksum_ne_of_set (le16_lo8_hi8 (crc16 (responseBody payload))) hi hb hcrc

/-! ## The rejection -/

/-- A frame fails validation by its length byte or by its checksum (R268). -/
theorem toByte_of_validateFrame {k : Nat} {s : List Byte} {c : ErrCode} (h : validateFrame k s = .error c) :
    c.toByte = 0x20#8 ∨ c.toByte = 0x21#8 := by
  unfold validateFrame at h
  split at h
  · split at h
    · cases h
    · cases h; exact .inr rfl
  · cases h; exact .inl rfl

/-- A full-length attempt that does not validate fails with the check's code, and is not repeated (R159). -/
theorem recvStep_of_invalid (onFail : ErrCode → State → State) (onPayload : List Byte → State → State)
    {s : State} {k : Nat} {c : ErrCode} (hlen : (nextAnswer s).length = k)
    (hbad : validateFrame k (nextAnswer s) = .error c) :
    recvStep k onFail onPayload s = onFail c (fullAttempt k (nextAnswer s) s) := by
  rw [← receiveBytes_eq_fullAttempt _ _ s hlen]
  rcases recvStep_cases k onFail onPayload s with
    ⟨h, _⟩ | ⟨h, _⟩ | ⟨h, _⟩ | ⟨_, c', hv, hr⟩ | ⟨_, d, hv, _⟩
  · omega
  · omega
  · omega
  · rw [hbad] at hv; cases hv
    exact hr
  · rw [hbad] at hv; cases hv

/-- An attempt of RECV that reads an invalid frame of full length ends it with the check's code and no data (R159). -/
theorem exec_recv_of_invalid {s : State} {n : Byte} {c : ErrCode} (hphase : InPhase (.recv n) .respRx s)
    (hlen : (nextAnswer s).length = n.toNat + 3) (hbad : validateFrame (n.toNat + 3) (nextAnswer s) = .error c) :
    exec (.recv n) s = .next (completed c.toByte [] (fullAttempt (n.toNat + 3) (nextAnswer s) s)) := by
  rw [exec_of_inPhase _ _ s rfl hphase]
  exact congrArg Host.Outcome.next (recvStep_of_invalid failWith (finish .ok) hlen hbad)

/-! ## The CRC operation -/

/-- The CRC_RUN step is the effect the statement expects (R134). -/
theorem crcStep_eq_completed (bytes : List Byte) (s : State) :
    crcStep bytes s =
      completed 0x00#8 [] { s with crcAcc := crc16 bytes, crcBit := 0#3, crcOut := some (crc16 bytes) } := by
  have hbit : (crcRun bytes).bit = 0#3 := crcRun_bit bytes
  simp only [crcStep, runCrc, hbit]
  rfl

end Sys2Proof.Machine

namespace Sys2Proof.ChecksumProofs

open Machine Safety

/-- Settles O14: a computation is linear, and both start from the sum of two starts. -/
theorem checksumIsLinear : Obligations.ChecksumIsLinear := by
  intro a b hlen
  rw [crc16_eq_foldl, crc16_eq_foldl, crc16_eq_foldl]
  exact foldl_crcByte_zipWith_xor a b 0#16 0#16 hlen

/-- Settles O15: after the zero bytes the computation is where it starts. -/
theorem zeroBytesInFrontAreInvisible : Obligations.ZeroBytesInFrontAreInvisible := by
  intro k s
  refine ⟨?_, crc16_replicate_zero k⟩
  rw [crc16_append, crc16_replicate_zero, crc16_eq_foldl]

/-- Settles O16: an inverted bit is a changed byte, which validation rejects and RECV reports. -/
theorem singleBitErrorsAreDetected : Obligations.SingleBitErrorsAreDetected := by
  rintro payload i j - hi hj bad rfl
  have hmask : 0x01#8 <<< j ≠ 0#8 := by interval_cases j <;> decide
  have hreject := validateFrame_set_ne_ok (b := (responseFrame payload).getD i 0x00#8 ^^^ (0x01#8 <<< j)) hi
    (fun h => hmask ((BitVec.xor_right_inj _).1 (h.trans BitVec.xor_zero.symm)))
  refine ⟨hreject, fun s n hn hphase hanswer => ?_⟩
  cases hv : validateFrame (payload.length + 3) (nextAnswer s) with
  | ok d => exact absurd (hanswer ▸ hv) (hreject d)
  | error c =>
    have hlen : (nextAnswer s).length = n.toNat + 3 := by
      rw [hanswer, List.length_set, length_responseFrame, hn]
    refine ⟨c.toByte, toByte_of_validateFrame hv, ?_⟩
    rw [← hanswer, ← hn]
    exact exec_recv_of_invalid hphase hlen (hn ▸ hv)

/-- Settles O17: the engine's move in CRC_RUN is the computation, which leaves `CRC_BIT` 0. -/
theorem crcCompletes : Obligations.CrcCompletes := by
  intro s bytes hphase
  rw [exec_of_inPhase _ _ s rfl hphase]
  exact congrArg Host.Outcome.next (crcStep_eq_completed bytes s)

end Sys2Proof.ChecksumProofs
end

section
/-! PROOF. The reference decoder of the bus reads each wire format back: the length field of a frame locates its
checksum, and what stands before the checksum is the frame's own content (41_framer.md R162). -/

namespace Sys2Proof

open Machine

/-- The length field does not wrap for a payload that a frame can carry (R8, R92). -/
theorem toNat_frameLengthField {P : Nat} (h : P ≤ 248) : (frameLengthField P).toNat = P + 7 := by
  rw [frameLengthField, BitVec.toNat_ofNat]
  omega

/-- The reference decoder recovers every field of a command frame (R162): the length field says where the payload ends,
so that the checksum is compared with the one that the frame was built with. -/
theorem decodeCommandFrame_commandFrame (opcode p1 : Byte) (p2 : U16) {payload : List Byte}
    (h : payload.length ≤ 248) :
    decodeCommandFrame (commandFrame opcode p1 p2 payload) = .ok (.wCmd opcode p1 p2 payload) := by
  have hL := toNat_frameLengthField h
  simp [decodeCommandFrame, commandFrame, commandBody, hL]

/-- W-IDLE and W-SLEEP are told apart by their byte, which R101 keeps different. -/
theorem wordSleep_ne_wordIdle (h : Config.Handle) : h.params.wordSleep ≠ h.params.wordIdle := by
  have hw := h.admissible
  simp only [Config.Params.wf, Bool.and_eq_true, decide_eq_true_eq] at hw
  tauto

/-- A response frame that the engine can read is read as its payload (R95, R162). -/
theorem decodeToEngine_responseFrame (p : Config.Params) {data : List Byte} (h : data.length ≤ 252) :
    decodeToEngine p p.devAddr (responseFrame data) = .ok (.wRsp data) := by
  simp [decodeToEngine, validateFrame_responseFrame data h]

end Sys2Proof

namespace Sys2Proof.FramerProofs

/-- Settles O49, format by format. -/
theorem wireFormatsDecodeToThemselves : Obligations.WireFormatsDecodeToThemselves := by
  intro h i hw
  refine ⟨fun hwire hrsp hwake => ?_, ?_, ?_⟩
  · cases i with
    | wCmd opcode p1 p2 payload =>
      exact (if_neg (not_not.2 rfl)).trans (decodeCommandFrame_commandFrame opcode p1 p2 (of_decide_eq_true hw))
    | wIdle => exact (if_neg (not_not.2 rfl)).trans (if_pos rfl)
    | wSleep =>
      exact (if_neg (not_not.2 rfl)).trans ((if_neg (wordSleep_ne_wordIdle h)).trans (if_pos rfl))
    | wRsp data => exact absurd rfl (hrsp data)
    | wWake => exact absurd rfl hwake
    | _ => cases hwire
  · rintro rfl
    exact if_pos rfl
  · rintro data rfl
    exact decodeToEngine_responseFrame h.params (of_decide_eq_true hw)

end Sys2Proof.FramerProofs
end

section
/-! PROOF. The attempts of `frame_recv`: how the step of a receive phase ends, whatever the operation, by what the
transport answers (41_framer.md R155 to R160). -/

namespace Sys2Proof.Machine

open Safety

/-! ## What validation makes of a full-length frame -/

theorem validateFrame_of_lengthByte_ne {k : Nat} {s : List Byte} (h : (s.getD 0 0#8).toNat ≠ k) :
    validateFrame k s = .error .integrityLength :=
  if_neg (by simpa only [lengthByteOk, decide_eq_true_iff] using h)

theorem validateFrame_of_checksum_ne {k : Nat} {s : List Byte} (h : (s.getD 0 0#8).toNat = k)
    (hcrc : le16 (s.getD (k - 2) 0#8) (s.getD (k - 1) 0#8) ≠ crc16 (s.take (k - 2))) :
    validateFrame k s = .error .integrityChecksum :=
  (if_pos (decide_eq_true h)).trans (if_neg hcrc)

/-- Validation succeeds on the two checks of R157 and R158. -/
theorem exists_validateFrame_ok_iff (k : Nat) (s : List Byte) :
    (∃ d, validateFrame k s = .ok d) ↔ (s.getD 0 0#8).toNat = k ∧
      le16 (s.getD (k - 2) 0#8) (s.getD (k - 1) 0#8) = crc16 (s.take (k - 2)) := by
  simp only [validateFrame_ok_iff, lengthByteOk, decide_eq_true_iff, exists_and_left, exists_eq, and_true,
    receivedChecksum, coveredBytes]

/-! ## How one attempt ends -/

section Attempt

variable (onFail : ErrCode → State → State) (onPayload : List Byte → State → State) {s : State} {k : Nat}

/-- A short attempt with another one left is counted, and that is all (R155). -/
theorem recvStep_of_short (hlen : (nextAnswer s).length < k) (hleft : s.attempts + 1 ≠ s.params.readAttempts) :
    recvStep k onFail onPayload s = attempted k (nextAnswer s) s := by
  rw [← receiveBytes_eq_attempted _ _ s hlen]
  rcases recvStep_cases k onFail onPayload s with ⟨h, _⟩ | ⟨_, ha, _⟩ | ⟨_, _, hr⟩ | ⟨h, _⟩ | ⟨h, _⟩
  · omega
  · exact absurd ha hleft
  · exact hr
  · omega
  · omega

/-- A short attempt that is the last one fails (R155, R262). -/
theorem recvStep_of_lastShort (hlen : (nextAnswer s).length < k) (hlast : s.attempts + 1 = s.params.readAttempts) :
    recvStep k onFail onPayload s = onFail .transportRead (attempted k (nextAnswer s) s) := by
  rw [← receiveBytes_eq_attempted _ _ s hlen]
  rcases recvStep_cases k onFail onPayload s with ⟨h, _⟩ | ⟨_, _, hr⟩ | ⟨_, ha, _⟩ | ⟨h, _⟩ | ⟨h, _⟩
  · omega
  · exact hr
  · exact absurd hlast ha
  · omega
  · omega

/-- A full-length attempt that validates hands its payload on (R160). -/
theorem recvStep_of_valid {d : List Byte} (hlen : (nextAnswer s).length = k)
    (hok : validateFrame k (nextAnswer s) = .ok d) :
    recvStep k onFail onPayload s = onPayload d (fullAttempt k (nextAnswer s) s) := by
  rw [← receiveBytes_eq_fullAttempt _ _ s hlen]
  rcases recvStep_cases k onFail onPayload s with
    ⟨h, _⟩ | ⟨h, _⟩ | ⟨h, _⟩ | ⟨_, c, hv, _⟩ | ⟨_, d', hv, hr⟩
  · omega
  · omega
  · omega
  · rw [hok] at hv; cases hv
  · rw [hok] at hv; cases hv
    exact hr

/-- The state an overrun leaves: the attempt is counted and its event stands, and the fault is taken (R156). -/
def overrunTaken (k : Nat) (s : State) : State :=
  faulted .transportContract
    { s with
      transport := s.transport.afterAnswer
      attempts := s.attempts + 1
      events := .busRead s.params.devAddr k (nextAnswer s) :: s.events }

/-- More bytes than requested are a contract fault (R156). -/
theorem recvStep_of_overrun (hlen : k < (nextAnswer s).length) :
    recvStep k onFail onPayload s = overrunTaken k s := by
  rcases recvStep_cases k onFail onPayload s with ⟨_, hr⟩ | ⟨h, _⟩ | ⟨h, _⟩ | ⟨h, _⟩ | ⟨h, _⟩
  · rw [hr, receiveBytes_overrun _ _ _ hlen]
    rfl
  · omega
  · omega
  · omega
  · omega

end Attempt

/-! ## The receive phases -/

/-- The step of a receive phase is one attempt, whose failure ends the operation (R155, R186, R190, R191). The
operations differ in what follows the payload alone. -/
theorem exec_of_receiving {s : State} {op : Instr} {p : Phase} {k : Nat} (hphase : InPhase op p s)
    (hk : receiveLength op p = some k) :
    ∃ onPayload, exec op s =
      .next (recvStep k (fun c => completed (receptionCode p c.toByte) []) onPayload s) := by
  unfold receiveLength at hk
  split at hk <;> cases hk
  all_goals exact ⟨_, (exec_of_inPhase _ _ s rfl hphase).trans rfl⟩

section Receiving

variable {s : State} {op : Instr} {p : Phase} {k : Nat}

theorem exec_of_short (hphase : InPhase op p s) (hk : receiveLength op p = some k)
    (hlen : (nextAnswer s).length < k) (hleft : s.attempts + 1 ≠ s.params.readAttempts) :
    exec op s = .next (attempted k (nextAnswer s) s) := by
  obtain ⟨onPayload, he⟩ := exec_of_receiving hphase hk
  rw [he, recvStep_of_short _ _ hlen hleft]

theorem exec_of_lastShort (hphase : InPhase op p s) (hk : receiveLength op p = some k)
    (hlen : (nextAnswer s).length < k) (hlast : s.attempts + 1 = s.params.readAttempts) :
    exec op s = .next (completed (receptionCode p 0x11#8) [] (attempted k (nextAnswer s) s)) := by
  obtain ⟨onPayload, he⟩ := exec_of_receiving hphase hk
  rw [he, recvStep_of_lastShort _ _ hlen hlast]
  rfl

theorem exec_of_invalid {c : ErrCode} (hphase : InPhase op p s) (hk : receiveLength op p = some k)
    (hlen : (nextAnswer s).length = k) (hbad : validateFrame k (nextAnswer s) = .error c) :
    exec op s = .next (completed (receptionCode p c.toByte) [] (fullAttempt k (nextAnswer s) s)) := by
  obtain ⟨onPayload, he⟩ := exec_of_receiving hphase hk
  rw [he, recvStep_of_invalid _ _ hlen hbad]

theorem exec_of_overrun (hphase : InPhase op p s) (hk : receiveLength op p = some k)
    (hlen : k < (nextAnswer s).length) : exec op s = .next (overrunTaken k s) := by
  obtain ⟨onPayload, he⟩ := exec_of_receiving hphase hk
  rw [he, recvStep_of_overrun _ _ hlen]

/-- RECV ends with the payload of a full-length frame that validates (R160). -/
theorem exec_recv_of_valid {n : Byte} {d : List Byte} (hphase : InPhase (.recv n) .respRx s)
    (hlen : (nextAnswer s).length = n.toNat + 3) (hok : validateFrame (n.toNat + 3) (nextAnswer s) = .ok d) :
    exec (.recv n) s = .next (completed 0x00#8 d (fullAttempt (n.toNat + 3) (nextAnswer s) s)) := by
  rw [exec_of_inPhase _ _ s rfl hphase]
  exact congrArg Host.Outcome.next (recvStep_of_valid failWith (finish .ok) hlen hok)

end Receiving

end Sys2Proof.Machine

namespace Sys2Proof.FramerProofs

open Machine Safety

/-- Settles O31: every receive phase is one attempt, and the five answers end it alike. -/
theorem everyReceivePhaseFailsAlike : Obligations.EveryReceivePhaseFailsAlike := by
  intro s op p k hphase hk
  exact ⟨exec_of_short hphase hk, exec_of_lastShort hphase hk,
    fun hlen hbyte => exec_of_invalid hphase hk hlen (validateFrame_of_lengthByte_ne hbyte),
    fun hlen hbyte hcrc => exec_of_invalid hphase hk hlen (validateFrame_of_checksum_ne hbyte hcrc),
    exec_of_overrun hphase hk⟩

/-- Settles O26: the step is the write of the frame, and its status decides the outcome. -/
theorem sendCompletes : Obligations.SendCompletes := by
  intro s opcode p1 p2 payload hphase
  rw [exec_of_inPhase _ _ s rfl hphase, ← transmitCommand_eq_commandWritten]
  refine congrArg Host.Outcome.next ?_
  rcases cmdTxStep_cases opcode p1 p2 payload (finish .ok []) s with ⟨h0, hr⟩ | ⟨hne, hr⟩
  · rw [if_pos h0]
    exact hr
  · rw [if_neg hne]
    exact hr

/-- Settles O27: the valid frame has full length and validates. -/
theorem recvCompletesOnValidFrame : Obligations.RecvCompletesOnValidFrame := by
  intro s n data hphase hn hd ha
  rw [← ha]
  refine exec_recv_of_valid hphase ?_ ?_
  · rw [ha, length_responseFrame, hd]
  · rw [ha, ← hd]
    exact validateFrame_responseFrame data (hd ▸ hn)

/-- Settles O28: RESP_RX of RECV is a receive phase. -/
theorem recvShortAttemptRetriesOrFails : Obligations.RecvShortAttemptRetriesOrFails :=
  fun _ _ hphase hlen => ⟨exec_of_short hphase rfl hlen, exec_of_lastShort hphase rfl hlen⟩

/-- Settles O29: RESP_RX of RECV is a receive phase, and the length byte is checked before the checksum. -/
theorem recvRejectsInvalidFrame : Obligations.RecvRejectsInvalidFrame :=
  fun _ _ hphase hlen =>
    ⟨fun hbyte => exec_of_invalid hphase rfl hlen (validateFrame_of_lengthByte_ne hbyte),
      fun hbyte hcrc => exec_of_invalid hphase rfl hlen (validateFrame_of_checksum_ne hbyte hcrc)⟩

/-- Settles O30: RESP_RX of RECV is a receive phase. -/
theorem recvOverrunTakesTheContractFault : Obligations.RecvOverrunTakesTheContractFault :=
  fun _ _ hphase hlen => exec_of_overrun hphase rfl hlen

end Sys2Proof.FramerProofs
end

section
/-! PROOF. Whole runs of RECV (41_framer.md R163, R164): the short attempts, the attempt that ends it, and that nothing
more happens once it has ended. -/

namespace Sys2Proof.Machine

open Safety

/-! ## Runs -/

/-- A run of one step more takes its first step and goes on. -/
theorem coreRun_succ_next_iff (M : Host.Core) (k : Nat) (s u : M.State) :
    M.run (k + 1) s = .next u ↔ ∃ t, M.step s = .next t ∧ M.run k t = .next u := by
  rw [Host.Core.run]
  cases M.step s <;> simp

theorem run_succ_next_iff (k : Nat) (s u : State) :
    run (k + 1) s = .next u ↔ ∃ t, step s = .next t ∧ run k t = .next u :=
  coreRun_succ_next_iff core k s u

/-- A run, and one step more at its end. -/
theorem run_then_step (k : Nat) : ∀ {s t u : State}, run k s = .next t → step t = .next u →
    run (k + 1) s = .next u := by
  induction k with
  | zero =>
    intro s t u h hu
    cases h
    exact (run_succ_next_iff ..).2 ⟨u, hu, rfl⟩
  | succ k ih =>
    intro s t u h hu
    obtain ⟨v, hs, hv⟩ := (run_succ_next_iff ..).1 h
    exact (run_succ_next_iff ..).2 ⟨v, hs, ih hv hu⟩

/-- An engine at rest, left alone with nothing for the host to do, stays as it is (R121). -/
theorem run_of_rest {s : State} (hready : Ready s) (halone : Alone s) (hidle : HostIdle s) (k : Nat) :
    run k s = .next s := by
  have hstep : step s = .next s := (step_of_ready hready halone).trans (hostTurn_of_ended hidle)
  induction k with
  | zero => rfl
  | succ k ih => exact (run_succ_next_iff ..).2 ⟨s, hstep, ih⟩

/-- A faulted engine that is left alone goes nowhere (R267). -/
theorem eq_of_run_of_fault {s t : State} (hf : s.fault = true) (halone : Alone s) {k : Nat} (h : run k s = .next t) :
    t = s := by
  cases k with
  | zero => cases h; rfl
  | succ k =>
    obtain ⟨u, hs, _⟩ := (run_succ_next_iff ..).1 h
    rw [step_of_empty s halone, engineTurn, if_pos hf] at hs
    cases hs

/-- The engine, left alone, goes on with the operation in progress (R195). -/
theorem step_of_inPhase {op : Instr} {p : Phase} {s : State} (hphase : InPhase op p s) (halone : Alone s) :
    step s = exec op s := by
  rw [step_of_empty s halone, engineTurn_of_inPhase op p s hphase]

/-! ## The short attempts -/

/-- The state after attempts that returned `shorts`, in order, each short of `k` bytes (R155). -/
def afterShorts (k : Nat) (shorts : List (List Byte)) (s : State) : State :=
  shorts.foldl (fun t b => attempted k b t) s

theorem afterShorts_concat (k : Nat) (shorts : List (List Byte)) (b : List Byte) (s : State) :
    afterShorts k (shorts ++ [b]) s = attempted k b (afterShorts k shorts s) := by
  rw [afterShorts, List.foldl_append]
  rfl

@[simp] theorem afterShorts_cfg (k : Nat) (shorts : List (List Byte)) : ∀ s : State,
    (afterShorts k shorts s).cfg = s.cfg := by
  induction shorts with
  | nil => exact fun _ => rfl
  | cons b shorts ih => exact fun s => ih (attempted k b s)

/-- Short attempts leave the operation in its phase (R155). -/
theorem inPhase_afterShorts {op : Instr} {p : Phase} (k : Nat) (shorts : List (List Byte)) : ∀ {s : State},
    InPhase op p s → InPhase op p (afterShorts k shorts s) := by
  induction shorts with
  | nil => exact fun h => h
  | cons b shorts ih => exact fun {s} h => ih (s := attempted k b s) h

theorem alone_afterShorts (k : Nat) (shorts : List (List Byte)) : ∀ {s : State},
    Alone s → Alone (afterShorts k shorts s) := by
  induction shorts with
  | nil => exact fun h => h
  | cons b shorts ih => exact fun {s} h => ih (s := attempted k b s) h

@[simp] theorem afterShorts_attempts (k : Nat) (shorts : List (List Byte)) : ∀ s : State,
    (afterShorts k shorts s).attempts = s.attempts + shorts.length := by
  induction shorts with
  | nil => exact fun _ => rfl
  | cons b shorts ih =>
    intro s
    rw [List.length_cons, Nat.add_comm shorts.length, ← Nat.add_assoc]
    exact ih (attempted k b s)

/-- Each answer is taken from the script. -/
theorem afterShorts_answers (k : Nat) (shorts : List (List Byte)) {rest : List (List Byte)} : ∀ {s : State},
    s.transport.answers = shorts ++ rest → (afterShorts k shorts s).transport.answers = rest := by
  induction shorts with
  | nil => exact fun h => h
  | cons b shorts ih =>
    intro s h
    exact ih ((afterAnswer_answers s.transport).trans (by rw [h]; rfl))

/-- Each attempt leaves its event, the newest first (R164). -/
theorem afterShorts_events (k : Nat) (shorts : List (List Byte)) : ∀ s : State,
    (afterShorts k shorts s).events = (shorts.reverse.map fun b => .busRead s.params.devAddr k b) ++ s.events := by
  induction shorts with
  | nil => exact fun _ => rfl
  | cons b shorts ih =>
    intro s
    rw [List.reverse_cons, List.map_append, List.append_assoc]
    exact ih (attempted k b s)

/-- RECV, left alone, makes one attempt after the other while they are short and not the last (R155). -/
theorem run_of_shorts {n : Byte} (shorts : List (List Byte)) : ∀ {s : State} {rest : List (List Byte)},
    InPhase (.recv n) .respRx s → Alone s → s.transport.answers = shorts ++ rest →
    (∀ b ∈ shorts, b.length < n.toNat + 3) → s.attempts + shorts.length < s.params.readAttempts →
    run shorts.length s = .next (afterShorts (n.toNat + 3) shorts s) := by
  induction shorts with
  | nil => intros; rfl
  | cons b shorts ih =>
    intro s rest hphase halone hanswers hshort hleft
    obtain ⟨hb, hshort⟩ := List.forall_mem_cons.1 hshort
    rw [List.length_cons] at hleft
    have hnext : nextAnswer s = b := nextAnswer_of_cons s b _ hanswers
    have hstep : step s = .next (attempted (n.toNat + 3) b s) := by
      rw [step_of_inPhase hphase halone, ← hnext]
      exact exec_of_short hphase rfl (hnext ▸ hb) (by omega)
    have hleft' : s.attempts + 1 + shorts.length < s.params.readAttempts := by omega
    exact (run_succ_next_iff ..).2 ⟨_, hstep, ih (s := attempted (n.toNat + 3) b s) hphase halone
      (afterShorts_answers (n.toNat + 3) [b] hanswers) hshort hleft'⟩

/-- After short attempts RECV goes on with the script's next answer. -/
theorem run_shorts_then {n : Byte} {shorts : List (List Byte)} {b : List Byte} {rest : List (List Byte)}
    {s t : State} (hphase : InPhase (.recv n) .respRx s) (halone : Alone s)
    (hanswers : s.transport.answers = shorts ++ b :: rest) (hshort : ∀ b ∈ shorts, b.length < n.toNat + 3)
    (hleft : s.attempts + shorts.length < s.params.readAttempts)
    (hlast : InPhase (.recv n) .respRx (afterShorts (n.toNat + 3) shorts s) →
      nextAnswer (afterShorts (n.toNat + 3) shorts s) = b →
      exec (.recv n) (afterShorts (n.toNat + 3) shorts s) = .next t) :
    run (shorts.length + 1) s = .next t := by
  have hphase' := inPhase_afterShorts (n.toNat + 3) shorts hphase
  have hnext := nextAnswer_of_cons _ b rest (afterShorts_answers (n.toNat + 3) shorts hanswers)
  refine run_then_step _ (run_of_shorts shorts hphase halone hanswers hshort hleft) ?_
  rw [step_of_inPhase hphase' (alone_afterShorts _ shorts halone)]
  exact hlast hphase' hnext

/-- RECV that reads a frame which validates after short attempts: the state it ends in (R163). -/
theorem run_recv_of_valid {n : Byte} {shorts : List (List Byte)} {frame d : List Byte} {rest : List (List Byte)}
    {s : State} (hphase : InPhase (.recv n) .respRx s) (halone : Alone s)
    (hanswers : s.transport.answers = shorts ++ frame :: rest) (hshort : ∀ b ∈ shorts, b.length < n.toNat + 3)
    (hleft : s.attempts + shorts.length < s.params.readAttempts) (hlen : frame.length = n.toNat + 3)
    (hok : validateFrame (n.toNat + 3) frame = .ok d) :
    run (shorts.length + 1) s =
      .next (completed 0x00#8 d (fullAttempt (n.toNat + 3) frame (afterShorts (n.toNat + 3) shorts s))) := by
  refine run_shorts_then hphase halone hanswers hshort hleft fun hphase' hnext => ?_
  rw [exec_recv_of_valid hphase' (hnext ▸ hlen) (hnext ▸ hok), hnext]

/-- RECV whose last attempt is short too: the state it ends in (R155). -/
theorem run_recv_of_shorts {n : Byte} {shorts rest : List (List Byte)} {s : State}
    (hphase : InPhase (.recv n) .respRx s) (halone : Alone s) (hanswers : s.transport.answers = shorts ++ rest)
    (hshort : ∀ b ∈ shorts, b.length < n.toNat + 3) (hne : shorts ≠ [])
    (hall : s.attempts + shorts.length = s.params.readAttempts) :
    run shorts.length s = .next (completed 0x11#8 [] (afterShorts (n.toNat + 3) shorts s)) := by
  obtain ⟨init, b, rfl⟩ := (List.eq_nil_or_concat' shorts).resolve_left hne
  rw [List.forall_mem_append, List.forall_mem_singleton] at hshort
  obtain ⟨hinit, hb⟩ := hshort
  rw [List.length_append, List.length_singleton] at hall ⊢
  rw [List.append_assoc] at hanswers
  refine run_shorts_then hphase halone hanswers hinit (by omega) fun hphase' hnext => ?_
  have hlast : (afterShorts (n.toNat + 3) init s).attempts + 1 =
      (afterShorts (n.toNat + 3) init s).params.readAttempts := by
    rw [afterShorts_attempts, State.params, afterShorts_cfg]
    omega
  rw [exec_of_lastShort hphase' rfl (hnext ▸ hb) hlast, hnext, afterShorts_concat]
  rfl

/-! ## The exact condition (R163) -/

/-- Among the first `limit` answers one is full-length and valid, and those before it are short (R163). -/
def FirstFullIsValid (k limit : Nat) (answers : List (List Byte)) : Prop :=
  ∃ shorts frame rest d, answers = shorts ++ frame :: rest ∧ shorts.length < limit ∧ (∀ b ∈ shorts, b.length < k) ∧
    frame.length = k ∧ validateFrame k frame = .ok d

/-- A short answer in front takes one attempt. -/
theorem FirstFullIsValid.cons {k limit : Nat} {b : List Byte} {answers : List (List Byte)} (hb : b.length < k)
    (h : FirstFullIsValid k limit answers) : FirstFullIsValid k (limit + 1) (b :: answers) := by
  obtain ⟨shorts, frame, rest, d, rfl, hlimit, hshort, hframe⟩ := h
  exact ⟨b :: shorts, frame, rest, d, rfl, Nat.succ_lt_succ hlimit, List.forall_mem_cons.2 ⟨hb, hshort⟩, hframe⟩

/-- The condition by the position of the valid frame, in a script that is long enough. -/
theorem firstFullIsValid_iff {k limit : Nat} {answers : List (List Byte)} (h : limit ≤ answers.length) :
    FirstFullIsValid k limit answers ↔
      ∃ m, m < limit ∧ (∀ j, j < m → (answers.getD j []).length < k) ∧ (answers.getD m []).length = k ∧
        ∃ d, validateFrame k (answers.getD m []) = .ok d := by
  constructor
  · rintro ⟨shorts, frame, rest, d, rfl, hlimit, hshort, hframe⟩
    have hget : (shorts ++ frame :: rest).getD shorts.length [] = frame := by simp
    refine ⟨shorts.length, hlimit, fun j hj => ?_, hget.symm ▸ hframe.1, d, hget.symm ▸ hframe.2⟩
    rw [List.getD_append _ _ _ _ hj, List.getD_eq_getElem _ _ hj]
    exact hshort _ (List.getElem_mem hj)
  · rintro ⟨m, hm, hshort, hlen, d, hok⟩
    have hlt : m < answers.length := hm.trans_le h
    rw [List.getD_eq_getElem _ _ hlt] at hlen hok
    refine ⟨answers.take m, answers[m], answers.drop (m + 1), d, ?_, ?_, fun b hb => ?_, hlen, hok⟩
    · rw [← List.drop_eq_getElem_cons hlt, List.take_append_drop]
    · rwa [List.length_take_of_le hlt.le]
    · obtain ⟨j, hj, rfl⟩ := List.mem_take_iff_getElem.1 hb
      have hj' := lt_min_iff.1 hj
      rw [← List.getD_eq_getElem _ [] hj'.2]
      exact hshort j hj'.1

/-- From `s`, left alone, no run shows the outcome OK. -/
def NeverOk (s : State) : Prop := ∀ j t d, run j s = .next t → t.result ≠ ⟨true, some 0x00#8, some d⟩

/-- An operation that has ended with a failure keeps that outcome (R26). -/
theorem neverOk_completed {c : Byte} {data : List Byte} {s : State} (hc : c ≠ 0x00#8) (hf : s.fault = false)
    (halone : Alone s) (hidle : HostIdle s) : NeverOk (completed c data s) := by
  intro j t d h hres
  have hready : Ready (completed c data s) := ⟨hf, rfl⟩
  rw [run_of_rest hready halone hidle] at h
  cases h
  cases hres
  exact hc rfl

/-- After an overrun there is no outcome (R156, R267). -/
theorem neverOk_overrunTaken {k : Nat} {s : State} (halone : Alone s) (hinvalid : s.result.valid = false) :
    NeverOk (overrunTaken k s) := by
  intro j t d h hres
  obtain rfl := eq_of_run_of_fault (s := overrunTaken k s) rfl halone h
  have hvalid : s.result.valid = true := congrArg Result.valid hres
  cases hinvalid.symm.trans hvalid

/-- What an attempt of RECV that was answered `b` leads to: a further attempt, a valid frame, or no OK any more. -/
theorem recv_attempt_cases {n : Byte} {s v : State} {b : List Byte} (hphase : InPhase (.recv n) .respRx s)
    (halone : Alone s) (hidle : HostIdle s) (hinvalid : s.result.valid = false) (hnext : nextAnswer s = b)
    (hstep : exec (.recv n) s = .next v) :
    (b.length < n.toNat + 3 ∧ s.attempts + 1 ≠ s.params.readAttempts ∧ v = attempted (n.toNat + 3) b s) ∨
      (b.length = n.toNat + 3 ∧ ∃ d, validateFrame (n.toNat + 3) b = .ok d) ∨ NeverOk v := by
  subst hnext
  rcases Nat.lt_trichotomy (nextAnswer s).length (n.toNat + 3) with hlen | hlen | hlen
  · by_cases hlast : s.attempts + 1 = s.params.readAttempts
    · rw [exec_of_lastShort hphase rfl hlen hlast] at hstep
      cases hstep
      exact .inr (.inr (neverOk_completed (by decide) hphase.1 halone hidle))
    · rw [exec_of_short hphase rfl hlen hlast] at hstep
      cases hstep
      exact .inl ⟨hlen, hlast, rfl⟩
  · cases hv : validateFrame (n.toNat + 3) (nextAnswer s) with
    | ok d => exact .inr (.inl ⟨hlen, d, rfl⟩)
    | error c =>
      rw [exec_of_invalid hphase rfl hlen hv] at hstep
      cases hstep
      have hc : receptionCode .respRx c.toByte ≠ 0x00#8 := by
        rcases toByte_of_validateFrame hv with hc | hc <;> rw [hc] <;> decide
      exact .inr (.inr (neverOk_completed hc hphase.1 halone hidle))
  · rw [exec_of_overrun hphase rfl hlen] at hstep
    cases hstep
    exact .inr (.inr (neverOk_overrunTaken halone hinvalid))

/-- A run of RECV that ends with OK has read a valid frame within its attempts. -/
theorem firstFullIsValid_of_run {n : Byte} {d : List Byte} (j : Nat) : ∀ {s t : State} {limit : Nat},
    InPhase (.recv n) .respRx s → Alone s → HostIdle s → s.result.valid = false → 0 < limit →
    s.attempts + limit = s.params.readAttempts → limit ≤ s.transport.answers.length → run j s = .next t →
    t.result = ⟨true, some 0x00#8, some d⟩ → FirstFullIsValid (n.toNat + 3) limit s.transport.answers := by
  induction j with
  | zero =>
    intro s t limit _ _ _ hinvalid _ _ _ h hres
    cases h
    rw [hres] at hinvalid
    cases hinvalid
  | succ j ih =>
    intro s t limit hphase halone hidle hinvalid hpos hattempts hscript h hres
    obtain ⟨v, hstep, hrun⟩ := (run_succ_next_iff ..).1 h
    rw [step_of_inPhase hphase halone] at hstep
    obtain ⟨b, rest, hanswers⟩ := List.exists_cons_of_length_pos (hpos.trans_le hscript)
    have hnext : nextAnswer s = b := nextAnswer_of_cons s b rest hanswers
    rw [hanswers] at hscript ⊢
    rcases recv_attempt_cases hphase halone hidle hinvalid hnext hstep with
      ⟨hlen, hlast, rfl⟩ | ⟨hlen, d', hok⟩ | hnever
    · obtain ⟨limit, rfl⟩ : ∃ l, limit = l + 1 := ⟨limit - 1, by omega⟩
      have hleft : s.attempts + 1 + limit = s.params.readAttempts := by omega
      have hrest : (attempted (n.toNat + 3) b s).transport.answers = rest := afterShorts_answers _ [b] hanswers
      have hfound := ih (s := attempted (n.toNat + 3) b s) hphase halone hidle hinvalid (by omega) hleft
        (hrest.symm ▸ Nat.le_of_succ_le_succ hscript) hrun hres
      exact (hrest ▸ hfound).cons hlen
    · exact ⟨[], b, rest, d', rfl, hpos, List.forall_mem_nil _, hlen, hok⟩
    · exact absurd hres (hnever j t d hrun)

end Sys2Proof.Machine

namespace Sys2Proof.FramerProofs

open Machine Safety

/-- Settles O32: the valid frame after the short attempts. -/
theorem recvRetriesUntilTheValidFrame : Obligations.RecvRetriesUntilTheValidFrame := by
  intro s n shorts data more hphase halone hzero hn hd hleft hshort hanswers
  have hframe := length_responseFrame data
  have hok := validateFrame_responseFrame data (hd ▸ hn)
  rw [hd] at hframe hok
  have hleft' : s.attempts + shorts.length < s.params.readAttempts := by omega
  refine ⟨_, run_recv_of_valid hphase halone hanswers hshort hleft' hframe hok, rfl, rfl, ?_, hframe, ?_, ?_⟩
  · simp [completed, fullAttempt, attempted, hzero]
  · exact (afterAnswer_answers _).trans (by rw [afterShorts_answers _ _ hanswers]; rfl)
  · simp [completed, fullAttempt, attempted, afterShorts_events, State.params]

/-- Settles O33: every attempt is short, the last one too. -/
theorem recvGivesUpAfterReadAttempts : Obligations.RecvGivesUpAfterReadAttempts := by
  intro s n shorts more hphase halone hzero hlen hshort hanswers
  have hne : shorts ≠ [] := by
    rintro rfl
    exact absurd hlen (readAttempts_pos s.cfg).ne
  rw [← hlen]
  refine ⟨_, run_recv_of_shorts hphase halone hanswers hshort hne (by omega), rfl, rfl, ?_,
    afterShorts_answers _ _ hanswers, afterShorts_events _ _ s⟩
  simp [completed, hzero]

/-- Settles O34: what makes a run end with OK, and the run that does. -/
theorem recvAcceptanceIsExact : Obligations.RecvAcceptanceIsExact := by
  intro s n hphase halone hidle hzero _ hinvalid hscript
  have hvalid := fun m => exists_validateFrame_ok_iff (n.toNat + 3) (s.transport.answers.getD m [])
  have hcondition := firstFullIsValid_iff (k := n.toNat + 3) hscript
  simp only [hvalid] at hcondition
  refine Iff.trans ⟨?_, ?_⟩ hcondition
  · rintro ⟨j, t, d, hrun, hres⟩
    exact firstFullIsValid_of_run j hphase halone hidle hinvalid (readAttempts_pos s.cfg) (by omega) hscript hrun hres
  · rintro ⟨shorts, frame, rest, d, hanswers, hleft, hshort, hlen, hok⟩
    exact ⟨shorts.length + 1, _, d,
      run_recv_of_valid hphase halone hanswers hshort (by omega) hlen hok, rfl⟩

end Sys2Proof.FramerProofs
end

section
/-! PROOF. The device decides nothing but itself (42_sequencer.md R180): each operation on the state does the same with
any other device behind the transport, but for the device it leaves (`DeviceBlind`), and so does each step (`OutBlind`). -/

namespace Sys2Proof.Machine

open Safety

/-! ## Operations that do not read the device -/

/-- The same state, with the device `d` behind the transport. -/
def withDevice (d : Device) (s : State) : State := { s with device := d }

@[simp] theorem withDevice_fault (d : Device) (s : State) : (withDevice d s).fault = s.fault := rfl
@[simp] theorem withDevice_seqPhase (d : Device) (s : State) : (withDevice d s).seqPhase = s.seqPhase := rfl
@[simp] theorem withDevice_curOp (d : Device) (s : State) : (withDevice d s).curOp = s.curOp := rfl

/-- With another device before it, `f` gives the same state after it, but for the device (R180). -/
def DeviceBlind (f : State → State) : Prop := ∀ s d, ∃ d', f (withDevice d s) = withDevice d' (f s)

theorem DeviceBlind.comp {f g : State → State} (hg : DeviceBlind g) (hf : DeviceBlind f) :
    DeviceBlind fun s => g (f s) := by
  intro s d
  obtain ⟨d', hd'⟩ := hf s d
  simp only [hd']
  exact hg (f s) d'

/-- A choice that does not look at the device. -/
theorem DeviceBlind.ite {c : State → Prop} [DecidablePred c] {f g : State → State}
    (hc : ∀ s d, c (withDevice d s) ↔ c s) (hf : DeviceBlind f) (hg : DeviceBlind g) :
    DeviceBlind fun s => if c s then f s else g s := by
  intro s d
  simp only [hc]
  split
  · exact hf s d
  · exact hg s d

theorem deviceBlind_finish (c : ErrCode) (data : List Byte) : DeviceBlind (finish c data) := fun _ d => ⟨d, rfl⟩

theorem deviceBlind_raiseFault (r : FaultReason) : DeviceBlind (raiseFault r) := fun _ d => ⟨d, rfl⟩

theorem deviceBlind_setPhase (p : Phase) : DeviceBlind (setPhase p) := fun _ d => ⟨d, rfl⟩

theorem deviceBlind_transmitWake : DeviceBlind transmitWake := fun _ d => ⟨d.onWake, rfl⟩

theorem deviceBlind_transmitIdle : DeviceBlind transmitIdle := fun _ d => ⟨d.onIdle, rfl⟩

theorem deviceBlind_transmitSleep : DeviceBlind transmitSleep := fun _ d => ⟨d.onSleep, rfl⟩

theorem deviceBlind_wakeSettleStep : DeviceBlind wakeSettleStep := fun _ d => ⟨d.onWakeSettle, rfl⟩

theorem deviceBlind_transmitCommand (opcode p1 : Byte) (p2 : U16) (payload : List Byte) :
    DeviceBlind (transmitCommand opcode p1 p2 payload) := by
  intro s d
  simp only [transmitCommand_eq]
  exact ⟨d.onCommand s.params opcode p1 p2 payload (nextStatus s) s.elapsedUs, rfl⟩

theorem deviceBlind_wordOutcome (status : Byte) : DeviceBlind (wordOutcome status) :=
  .ite (fun _ _ => Iff.rfl) (deviceBlind_finish _ _) (deviceBlind_finish _ _)

/-- The read of W-RSP by itself, which no RECV counts (log entry 16). -/
theorem deviceBlind_readOutside (k : Nat) (bytes : List Byte) (hlen : bytes.length = k) :
    DeviceBlind fun s => storeBytes k bytes (recordRead s.params.devAddr k bytes s) := by
  intro s d
  simp only [storeBytes_recordRead k bytes _ hlen]
  exact ⟨d.onFullRead s.elapsedUs, rfl⟩

/-- Acceptance looks at the operands and the configuration alone (R113, R114). -/
theorem deviceBlind_accept (op : Instr) : DeviceBlind (accept op) := by
  have hbegin : DeviceBlind (accepted op) := by
    intro s d
    simp only [accepted_eq]
    exact ⟨d, rfl⟩
  exact .ite (fun _ _ => Iff.rfl) (deviceBlind_raiseFault _)
    (.ite (fun _ _ => Iff.rfl) (deviceBlind_raiseFault _) hbegin)

/-! ## The rows of R197 -/

/-- The status of the write decides, which the transport gives (R10, R152). -/
theorem deviceBlind_cmdTxStep (opcode p1 : Byte) (p2 : U16) (payload : List Byte) {onSent : State → State}
    (hsent : DeviceBlind onSent) : DeviceBlind (cmdTxStep opcode p1 p2 payload onSent) :=
  .ite (fun _ _ => Iff.rfl) (hsent.comp (deviceBlind_transmitCommand _ _ _ _))
    ((deviceBlind_finish _ _).comp (deviceBlind_transmitCommand _ _ _ _))

/-- The bytes of the attempt decide, which the transport gives (R10, R155). -/
theorem deviceBlind_recvStep (k : Nat) {onFail : ErrCode → State → State} {onPayload : List Byte → State → State}
    (hfail : ∀ c, DeviceBlind (onFail c)) (hload : ∀ data, DeviceBlind (onPayload data)) :
    DeviceBlind (recvStep k onFail onPayload) := by
  intro s d
  rcases Nat.lt_trichotomy (nextAnswer s).length k with hlen | hlen | hlen
  · by_cases hlast : s.attempts + 1 = s.params.readAttempts
    · rw [recvStep_of_lastShort _ _ hlen hlast, recvStep_of_lastShort (s := withDevice d s) _ _ hlen hlast]
      exact hfail _ (attempted k (nextAnswer s) s) d
    · rw [recvStep_of_short _ _ hlen hlast, recvStep_of_short (s := withDevice d s) _ _ hlen hlast]
      exact ⟨d, rfl⟩
  · cases hv : validateFrame k (nextAnswer s) with
    | error c =>
      rw [recvStep_of_invalid _ _ hlen hv, recvStep_of_invalid (s := withDevice d s) _ _ hlen hv]
      exact hfail c (fullAttempt k (nextAnswer s) s) (d.onFullRead s.elapsedUs)
    | ok data =>
      rw [recvStep_of_valid _ _ hlen hv, recvStep_of_valid (s := withDevice d s) _ _ hlen hv]
      exact hload data (fullAttempt k (nextAnswer s) s) (d.onFullRead s.elapsedUs)
  · rw [recvStep_of_overrun _ _ hlen, recvStep_of_overrun (s := withDevice d s) _ _ hlen]
    exact ⟨d, rfl⟩

theorem deviceBlind_wakeRxStep {onReady : State → State} (hready : DeviceBlind onReady) :
    DeviceBlind (wakeRxStep onReady) :=
  deviceBlind_recvStep 4 (fun _ => deviceBlind_finish _ _)
    fun _ => .ite (fun _ _ => Iff.rfl) hready (deviceBlind_finish _ _)

theorem deviceBlind_respRxStep (n : Byte) (sc : Bool) {onData : List Byte → State → State}
    (hdata : ∀ data, DeviceBlind (onData data)) : DeviceBlind (respRxStep n sc onData) :=
  deviceBlind_recvStep _ (fun _ => deviceBlind_finish _ _)
    fun data => .ite (fun _ _ => Iff.rfl) (deviceBlind_finish _ _) (hdata data)

theorem deviceBlind_wakeTxStep : DeviceBlind wakeTxStep := (deviceBlind_setPhase _).comp deviceBlind_transmitWake

/-- R197's row of an operation in a phase is one operation on the state that does not read the device, or there is no
row. -/
theorem phaseStep_deviceBlind (op : Instr) (p : Phase) :
    (∀ s, phaseStep op p s = none) ∨ ∃ f, DeviceBlind f ∧ ∀ s, phaseStep op p s = some (f s) := by
  cases op with
  | crc bytes =>
    cases p with
    | crcRun => exact .inr ⟨crcStep bytes, fun _ d => ⟨d, rfl⟩, fun _ => rfl⟩
    | _ => exact .inl fun _ => rfl
  | send opcode p1 p2 payload =>
    cases p with
    | cmdTx => exact .inr ⟨_, deviceBlind_cmdTxStep _ _ _ _ (deviceBlind_finish _ _), fun _ => rfl⟩
    | _ => exact .inl fun _ => rfl
  | recv n =>
    cases p with
    | respRx =>
      exact .inr ⟨_, deviceBlind_recvStep _ (fun _ => deviceBlind_finish _ _) (deviceBlind_finish _), fun _ => rfl⟩
    | _ => exact .inl fun _ => rfl
  | wake =>
    cases p with
    | wakeTx => exact .inr ⟨_, deviceBlind_wakeTxStep, fun _ => rfl⟩
    | wakeSettle => exact .inr ⟨_, deviceBlind_wakeSettleStep, fun _ => rfl⟩
    | wakeRx => exact .inr ⟨_, deviceBlind_wakeRxStep (deviceBlind_finish _ _), fun _ => rfl⟩
    | _ => exact .inl fun _ => rfl
  | idle =>
    cases p with
    | idleTx =>
      exact .inr ⟨idleStep, fun s => (deviceBlind_wordOutcome (nextStatus s)).comp deviceBlind_transmitIdle s,
        fun _ => rfl⟩
    | _ => exact .inl fun _ => rfl
  | sleep =>
    cases p with
    | sleepTx =>
      exact .inr ⟨sleepStep, fun s => (deviceBlind_wordOutcome (nextStatus s)).comp deviceBlind_transmitSleep s,
        fun _ => rfl⟩
    | _ => exact .inl fun _ => rfl
  | wait t =>
    cases p with
    | delay => exact .inr ⟨waitStep t, fun _ d => ⟨d, rfl⟩, fun _ => rfl⟩
    | _ => exact .inl fun _ => rfl
  | exch opcode p1 p2 settle n sc payload =>
    cases p with
    | cmdTx => exact .inr ⟨_, deviceBlind_cmdTxStep _ _ _ _ (deviceBlind_setPhase _), fun _ => rfl⟩
    | settle => exact .inr ⟨settleStep settle, fun _ d => ⟨d, rfl⟩, fun _ => rfl⟩
    | respRx => exact .inr ⟨_, deviceBlind_respRxStep _ _ (deviceBlind_finish _), fun _ => rfl⟩
    | _ => exact .inl fun _ => rfl
  | xact opcode p1 p2 settle n sc drain payload =>
    cases p with
    | wakeTx => exact .inr ⟨_, deviceBlind_wakeTxStep, fun _ => rfl⟩
    | wakeSettle => exact .inr ⟨_, deviceBlind_wakeSettleStep, fun _ => rfl⟩
    | wakeRx => exact .inr ⟨_, deviceBlind_wakeRxStep (deviceBlind_setPhase _), fun _ => rfl⟩
    | cmdTx => exact .inr ⟨_, deviceBlind_cmdTxStep _ _ _ _ (deviceBlind_setPhase _), fun _ => rfl⟩
    | settle => exact .inr ⟨settleStep settle, fun _ d => ⟨d, rfl⟩, fun _ => rfl⟩
    | respRx => exact .inr ⟨_, deviceBlind_respRxStep _ _ fun _ => deviceBlind_setPhase _, fun _ => rfl⟩
    | drain => exact .inr ⟨drainStep drain, fun _ d => ⟨d, rfl⟩, fun _ => rfl⟩
    | idleTx => exact .inr ⟨xactIdleStep n, fun _ d => ⟨d.onIdle, rfl⟩, fun _ => rfl⟩
    | _ => exact .inl fun _ => rfl
  | _ => exact .inl fun _ => rfl

/-! ## What a step answers -/

/-- Two answers that differ at most in the device; neither is a refusal. -/
inductive SameButDevice : Out → Out → Prop where
  | next (t : State) (d : Device) : SameButDevice (.next t) (.next (withDevice d t))
  | fault (f : Fault) : SameButDevice (.fault f) (.fault f)

/-- With another device before it, `g` answers the same, but for the device (R180). -/
def OutBlind (g : State → Out) : Prop := ∀ s d, SameButDevice (g s) (g (withDevice d s))

theorem DeviceBlind.next {f : State → State} (hf : DeviceBlind f) : OutBlind fun s => .next (f s) := by
  intro s d
  obtain ⟨d', hd'⟩ := hf s d
  simp only [hd']
  exact .next (f s) d'

theorem outBlind_fault (f : Fault) : OutBlind fun _ => .fault f := fun _ _ => .fault f

/-- A choice that does not look at the device. -/
theorem OutBlind.ite {c : State → Prop} [DecidablePred c] {f g : State → Out}
    (hc : ∀ s d, c (withDevice d s) ↔ c s) (hf : OutBlind f) (hg : OutBlind g) :
    OutBlind fun s => if c s then f s else g s := by
  intro s d
  simp only [hc]
  split
  · exact hf s d
  · exact hg s d

/-- What an unfaulted engine does, and a faulted one does not (R267). -/
theorem OutBlind.unlessFaulted {g : State → Out} (hg : OutBlind g) :
    OutBlind fun s => if s.fault then .fault .engineFaulted else g s :=
  .ite (fun _ _ => Iff.rfl) (outBlind_fault _) hg

/-- A host operation: its first step, its row of R197, or a fault (R196, R267). -/
theorem exec_outBlind_of_isHostOp {op : Instr} (hk : op.isHostOp = true) : OutBlind (exec op) := by
  obtain ⟨goOn, hg⟩ : ∃ goOn, exec op = hostOp op goOn := by
    cases op <;> first | exact ⟨_, rfl⟩ | simp [Instr.isHostOp] at hk
  intro s d
  rcases hostOp_cases op goOn s with ⟨hf, _⟩ | ⟨hf, hp, _⟩ | ⟨hf, hp, ho, _⟩ | ⟨hf, hp, ho, _⟩
  · simp only [hg, hostOp, withDevice_fault, hf, if_true]
    exact .fault _
  · have hready : Ready (withDevice d s) := ⟨hf, hp⟩
    rw [exec_of_ready op _ hk hready, exec_of_ready op s hk ⟨hf, hp⟩]
    exact (deviceBlind_accept op).next s d
  · have hphase : InPhase op s.seqPhase (withDevice d s) := ⟨hf, rfl, ho, hp⟩
    rw [exec_of_inPhase op _ _ hk hphase, exec_of_inPhase op _ s hk ⟨hf, rfl, ho, hp⟩]
    rcases phaseStep_deviceBlind op s.seqPhase with hnone | ⟨f, hf, hsome⟩
    · rw [hnone, hnone]
      exact .fault _
    · rw [hsome, hsome]
      exact hf.next s d
  · simp only [hg, hostOp, withDevice_fault, withDevice_seqPhase, withDevice_curOp, hf, hp, ho, if_false,
      Bool.false_eq_true]
    exact (deviceBlind_raiseFault _).next s d

theorem onBus_outBlind {f : State → State} (hf : DeviceBlind f) : OutBlind (onBus f) := hf.next.unlessFaulted

/-- The bound of a row looks at the payload and the configuration alone (log entry 16). -/
theorem deviceBlind_bounded {c : State → Bool} {f : State → State} (hc : ∀ s d, c (withDevice d s) = c s)
    (hf : DeviceBlind f) : DeviceBlind fun s => bounded (c s) f s := by
  intro s d
  simp only [hc, bounded]
  split
  · exact hf s d
  · exact deviceBlind_raiseFault _ s d

theorem exec_outBlind (i : Instr) : OutBlind (exec i) := by
  by_cases hk : i.isHostOp = true
  · exact exec_outBlind_of_isHostOp hk
  by_cases hq : i.isPseudo = true
  · intro s d
    rw [← exec_expand i s, ← exec_expand i (withDevice d s)]
    exact exec_outBlind_of_isHostOp (isHostOp_expand s.params i hq) s d
  cases i with
  | reserved op rest => exact (deviceBlind_raiseFault _).next.unlessFaulted
  | wCmd opcode p1 p2 payload =>
    exact (deviceBlind_bounded (fun _ _ => rfl) (deviceBlind_transmitCommand _ _ _ _)).next.unlessFaulted
  | wRsp payload =>
    exact (deviceBlind_bounded (fun _ _ => rfl)
      (deviceBlind_readOutside _ _ (length_responseFrame payload))).next.unlessFaulted
  | wIdle => exact onBus_outBlind deviceBlind_transmitIdle
  | wSleep => exact onBus_outBlind deviceBlind_transmitSleep
  | wWake => exact onBus_outBlind deviceBlind_transmitWake
  | _ => simp [Instr.isHostOp, Instr.isPseudo] at hk hq

/-! ## The agents' turns -/

theorem issueDescriptor_outBlind (d : List Byte) : OutBlind (issueDescriptor d) := by
  refine OutBlind.unlessFaulted (.ite (fun _ _ => Iff.rfl) ?_ (deviceBlind_raiseFault _).next)
  cases decode d with
  | ok i => exact exec_outBlind i
  | error _ => exact (deviceBlind_raiseFault _).next

/-- The host's turn looks at the host, the configuration and what the engine shows the host (R121). -/
theorem hostTurn_outBlind : OutBlind hostTurn := by
  intro s d
  rcases hl : s.host.inFlight with _ | l
  · rcases hstop : s.host.stopped with _ | c
    · rcases hprog : s.host.program with _ | ⟨l, rest⟩
      · rw [hostTurn_of_ended ⟨hl, hprog⟩, hostTurn_of_ended (s := withDevice d s) ⟨hl, hprog⟩]
        exact .next s d
      · rw [hostTurn_of_line hl hstop hprog, hostTurn_of_line (s := withDevice d s) hl hstop hprog]
        exact issueDescriptor_outBlind _ (takeLine l rest s) d
    · rw [hostTurn_of_stopped hl hstop, hostTurn_of_stopped (s := withDevice d s) hl hstop]
      exact .next s d
  · rw [hostTurn_of_inFlight hl, hostTurn_of_inFlight (s := withDevice d s) hl]
    exact .next (collectResult l s) d

theorem engineTurn_outBlind : OutBlind engineTurn := by
  refine OutBlind.unlessFaulted (.ite (fun _ _ => Iff.rfl) hostTurn_outBlind fun s d => ?_)
  rw [withDevice_curOp]
  cases s.curOp with
  | some op => exact exec_outBlind op s d
  | none => exact .fault _

/-- No register shows the device (R27). -/
theorem readRegister_outBlind (r : HostReg) : OutBlind (readRegister r) := by
  intro s d
  have hview : regValue (withDevice d s) r = regValue s r := by cases r <;> rfl
  simp only [readRegister, hview]
  cases regValue s r with
  | some v => exact .next (deliverRead r v s) d
  | none => exact (deviceBlind_raiseFault _).next.unlessFaulted s d

theorem takeInput_outBlind (i : Input) : OutBlind (takeInput i) := by
  cases i with
  | issue d => exact issueDescriptor_outBlind d
  | start lines => exact fun s d => .next (startProgram lines s) d
  | readReg r => exact readRegister_outBlind r
  | writeReg r v => exact (deviceBlind_raiseFault _).next.unlessFaulted
  | busInit => exact fun s d => .next (busInit s) d
  | engineReset => exact fun s _ => .next (engineReset s) (engineReset s).device
  | devicePowerOn => exact fun s _ => .next (devicePowerOn s) Device.poweredOn
  | deviceTimeout => exact fun s d => .next (deviceTimeout s) d.onTimeout
  | engineTurn => exact engineTurn_outBlind

theorem step_outBlind : OutBlind step := by
  intro s d
  cases hi : s.inbox with
  | nil =>
    rw [step_of_empty s hi, step_of_empty (withDevice d s) hi]
    exact engineTurn_outBlind s d
  | cons i rest =>
    rw [step_of_cons s i rest hi, step_of_cons (withDevice d s) i rest hi]
    exact takeInput_outBlind i (popInbox s) d

end Sys2Proof.Machine

namespace Sys2Proof.SequencerProofs

open Machine Safety

/-- Settles O13: two answers that differ in the device alone are two next states or the same fault. -/
theorem engineNeverReadsTheDevice : Obligations.EngineNeverReadsTheDevice := by
  intro s d
  have hsame : SameButDevice (step s) (step { s with device := d }) := step_outBlind s d
  refine ⟨fun t ht => ?_, fun f hf => ?_, fun r hr => ?_⟩
  · rw [ht] at hsame
    generalize step { s with device := d } = out at hsame
    cases hsame with
    | next _ d' => exact ⟨d', rfl⟩
  · rw [hf] at hsame
    generalize step { s with device := d } = out at hsame
    cases hsame with
    | fault => rfl
  · rw [hr] at hsame
    cases hsame

end Sys2Proof.SequencerProofs
end

section
/-! PROOF. Going on with an operation (42_sequencer.md R195 to R197): its step moves to a phase of its row or takes a fault,
and in every state that meets the invariant there is one. -/

namespace Sys2Proof.Machine

open Safety

/-! ## The phase after a step -/

/-- From the phase `p` of `op` the step went to a phase that R197's row allows, or took a fault and stayed. -/
def FollowsTable (op : Instr) (p : Phase) (t : State) : Prop :=
  (t.fault = false ∧ t.seqPhase ∈ nextPhases op p) ∨ (t.fault = true ∧ t.seqPhase = p)

/-- A receive phase may be stayed in for one more attempt (R155, R197). -/
theorem mem_nextPhases_of_receiveLength {op : Instr} {p : Phase} {k : Nat} (h : receiveLength op p = some k) :
    p ∈ nextPhases op p := by
  unfold receiveLength at h
  split at h <;> simp [nextPhases] at h ⊢

/-- However a step ends, it follows the table, where the row allows READY: an outcome leads there (R26). -/
theorem PhaseEnd.followsTable {op : Instr} {p : Phase} {u t : State} (h : PhaseEnd op p u t) (hf : u.fault = false)
    (hp : u.seqPhase = p) (hready : .ready ∈ nextPhases op p) : FollowsTable op p t := by
  cases h with
  | overrun => exact .inr ⟨rfl, hp⟩
  | again k receives => exact .inl ⟨hf, by rw [hp]; exact mem_nextPhases_of_receiveLength receives⟩
  | outcome => exact .inl ⟨hf, hready⟩
  | crcOutcome => exact .inl ⟨hf, hready⟩
  | advance q _ allowed => exact .inl ⟨hf, allowed⟩
  | toDrain _ allowed => exact .inl ⟨hf, allowed⟩
  | toIdle _ allowed => exact .inl ⟨hf, allowed⟩
  | toReceive q allowed => exact .inl ⟨hf, allowed⟩

/-- The rows without READY are the wake write and the delays within an operation, which have one next phase (R197). -/
theorem phaseStep_of_not_ready {op : Instr} {p : Phase} {s t : State} (h : phaseStep op p s = some t)
    (hready : .ready ∉ nextPhases op p) : t.fault = s.fault ∧ t.seqPhase ∈ nextPhases op p := by
  unfold phaseStep at h
  split at h <;> cases h
  all_goals simp [nextPhases] at hready
  all_goals exact ⟨rfl, List.mem_cons_self⟩

theorem phaseStep_followsTable {op : Instr} {s t : State} (hf : s.fault = false)
    (h : phaseStep op s.seqPhase s = some t) : FollowsTable op s.seqPhase t := by
  by_cases hready : .ready ∈ nextPhases op s.seqPhase
  · obtain ⟨u, hev, hend⟩ := phaseStep_split op _ s t h
    have hkeeps := hev.keepsControl
    exact hend.followsTable (hkeeps.fault.trans hf) hkeeps.seqPhase hready
  · obtain ⟨hfault, hnext⟩ := phaseStep_of_not_ready h hready
    exact .inl ⟨hfault.trans hf, hnext⟩

/-! ## There is a next state -/

/-- Every phase of an operation has its row (R197). -/
theorem exists_phaseStep {op : Instr} {p : Phase} (h : p ∈ phasesOf op) (s : State) :
    ∃ t, phaseStep op p s = some t := by
  cases op <;> simp only [phasesOf, List.mem_cons, List.not_mem_nil, or_false] at h
  case wake => rcases h with rfl | rfl | rfl <;> exact ⟨_, rfl⟩
  case exch => rcases h with rfl | rfl | rfl <;> exact ⟨_, rfl⟩
  case xact => rcases h with rfl | rfl | rfl | rfl | rfl | rfl | rfl | rfl <;> exact ⟨_, rfl⟩
  all_goals
    subst h
    exact ⟨_, rfl⟩

/-- The operation in progress of a state that meets the invariant goes on with its row. -/
theorem exec_of_engineInv {s : State} {op : Instr} (h : EngineInv s) (hf : s.fault = false)
    (hp : s.seqPhase ≠ .ready) (hop : s.curOp = some op) :
    ∃ t, phaseStep op s.seqPhase s = some t ∧ exec op s = .next t := by
  obtain ⟨hw, hmem⟩ := working_of_engineInv h hop hp
  obtain ⟨t, ht⟩ := exists_phaseStep hmem s
  exact ⟨t, ht, by rw [exec_of_inPhase op _ s hw.isHostOp ⟨hf, rfl, hop, hp⟩, ht]⟩

/-- An unfaulted engine takes every descriptor: with a first step, or with a fault (R103, R113, R196). -/
theorem exists_issueDescriptor {s : State} (d : List Byte) (hf : s.fault = false) :
    ∃ t, issueDescriptor d s = .next t := by
  rcases issueDescriptor_cases d s with ⟨hfault, _⟩ | ⟨_, hp, i, hd, hi⟩ | ⟨_, _, hi⟩
  · rw [hf] at hfault; cases hfault
  · rw [hi]
    rcases isHostOp_of_decode d i hd with hk | ⟨op, rest, rfl⟩
    · exact ⟨_, exec_of_ready i s hk ⟨hf, hp⟩⟩
    · exact ⟨_, exec_reserved op rest hf⟩
  · exact ⟨_, hi⟩

theorem exists_hostTurn {s : State} (hf : s.fault = false) : ∃ t, hostTurn s = .next t := by
  rcases hl : s.host.inFlight with _ | l
  · rcases hstop : s.host.stopped with _ | c
    · rcases hprog : s.host.program with _ | ⟨l, rest⟩
      · exact ⟨_, hostTurn_of_ended ⟨hl, hprog⟩⟩
      · rw [hostTurn_of_line hl hstop hprog]
        exact exists_issueDescriptor (s := takeLine l rest s) _ hf
    · exact ⟨_, hostTurn_of_stopped hl hstop⟩
  · exact ⟨_, hostTurn_of_inFlight hl⟩

theorem exists_engineTurn {s : State} (h : EngineInv s) (hf : s.fault = false) : ∃ t, engineTurn s = .next t := by
  by_cases hp : s.seqPhase = .ready
  · rw [engineTurn_of_ready s ⟨hf, hp⟩]
    exact exists_hostTurn hf
  · have hop := h.op
    unfold opConsistent at hop
    rcases hcur : s.curOp with _ | op
    · rw [hcur] at hop
      exact absurd hop hp
    · obtain ⟨t, _, ht⟩ := exec_of_engineInv h hf hp hcur
      rw [engineTurn_of_inPhase op _ s ⟨hf, rfl, hcur, hp⟩]
      exact ⟨t, ht⟩

/-- A read that finds no value, and every write, is a fault, and that is a next state (R26, R27, R267). -/
theorem exists_takeInput {s : State} (h : EngineInv s) (hf : s.fault = false) (i : Input) :
    ∃ t, takeInput i s = .next t := by
  cases i with
  | issue d => exact exists_issueDescriptor d hf
  | readReg r =>
    simp only [takeInput, readRegister, hf]
    cases regValue s r with
    | some v => exact ⟨_, rfl⟩
    | none => exact ⟨_, rfl⟩
  | writeReg r v =>
    simp only [takeInput, writeRegister, hf]
    exact ⟨_, rfl⟩
  | engineTurn => exact exists_engineTurn h hf
  | _ => exact ⟨_, rfl⟩

end Sys2Proof.Machine

namespace Sys2Proof.SequencerProofs

open Machine Safety

/-- Settles O11: the engine's turn is the row of the operation in progress. -/
theorem phasesFollowTheTable : Obligations.PhasesFollowTheTable := by
  intro s t op hinv hi hp hop hstep
  rw [step_of_empty s hi] at hstep
  obtain ⟨hf, _⟩ := engineTurn_next s t hstep
  obtain ⟨u, hrow, hu⟩ := exec_of_engineInv hinv hf hp hop
  rw [engineTurn_of_inPhase op _ s ⟨hf, rfl, hop, hp⟩, hu] at hstep
  cases hstep
  exact phaseStep_followsTable hf hrow

/-- Settles O12: the invariant keeps the phase one of the operation's own, and everything else is a step or a fault. -/
theorem unfaultedEngineAlwaysSteps : Obligations.UnfaultedEngineAlwaysSteps := by
  intro s hinv hf
  cases hi : s.inbox with
  | nil =>
    rw [step_of_empty s hi]
    exact exists_engineTurn hinv hf
  | cons i rest =>
    rw [step_of_cons s i rest hi]
    exact exists_takeInput ((sameEngine_popInbox s).engineInv hinv) hf i

/-- Settles O21: issuing while BUSY is the fault. -/
theorem busyEngineTakesTheProtocolFault : Obligations.BusyEngineTakesTheProtocolFault := by
  intro s d rest hf hp hi
  rw [step_of_issue hi]
  simp only [issueDescriptor, hf, hp, if_false, Bool.false_eq_true]
  rfl

end Sys2Proof.SequencerProofs
end

section
/-! PROOF. The rows of 42_sequencer.md R197 as the effects the statements expect: WAKE, IDLE, SLEEP, WAIT, EXCH and XACT,
phase by phase (R183 to R191). What WAKE and XACT, or EXCH and XACT, have in common is said once, of the step itself. -/

namespace Sys2Proof.Machine

open Safety

/-- An operation in progress does its row of R197. -/
theorem exec_of_phaseStep {op : Instr} {p : Phase} {s t : State} (hphase : InPhase op p s) (hk : op.isHostOp = true)
    (hrow : phaseStep op p s = some t) : exec op s = .next t := by
  rw [exec_of_inPhase op p s hk hphase, hrow]

/-! ## The ready check (R186) -/

/-- The checksum of the ready frame (R186). -/
theorem crc16_readyBody : crc16 [0x04#8, 0x11#8] = 0x4333#16 := by
  simp [crc16_eq_foldl, crcByte, crcBitStep, Config.CRC_POLY]

/-- The ready frame is the response frame of the ready code (R95, R186). -/
theorem responseFrame_readyCode : responseFrame [0x11#8] = [0x04#8, 0x11#8, 0x33#8, 0x43#8] := by
  have hbody : responseBody [0x11#8] = [0x04#8, 0x11#8] := rfl
  rw [responseFrame, hbody, crc16_readyBody]
  rfl

section Attempt

variable {s : State}

theorem wakeRxStep_of_ready (onReady : State → State) (ha : nextAnswer s = [0x04#8, 0x11#8, 0x33#8, 0x43#8]) :
    wakeRxStep onReady s = onReady (fullAttempt 4 [0x04#8, 0x11#8, 0x33#8, 0x43#8] s) := by
  rw [← responseFrame_readyCode] at ha ⊢
  exact recvStep_of_responseFrame wakeNoResponse _ (data := [0x11#8]) (by decide) ha

theorem wakeRxStep_of_otherCode (onReady : State → State) {b : Byte} (hb : b ≠ 0x11#8)
    (ha : nextAnswer s = responseFrame [b]) :
    wakeRxStep onReady s = completed 0x40#8 [] (fullAttempt 4 (responseFrame [b]) s) :=
  (recvStep_of_responseFrame wakeNoResponse _ (data := [b]) (by simp) ha).trans (if_neg hb)

/-! ## The writes (R152, R187, R188) -/

theorem wordOutcome_eq_completed (status : Byte) (s : State) :
    wordOutcome status s = completed (if status = 0#8 then 0x00#8 else 0x10#8) [] s := by
  unfold wordOutcome
  split <;> rfl

section Command

variable {opcode p1 : Byte} {p2 : U16} {payload : List Byte} (onSent : State → State)

theorem cmdTxStep_of_sent (h : nextStatus s = 0#8) :
    cmdTxStep opcode p1 p2 payload onSent s = onSent (commandWritten opcode p1 p2 payload s) := by
  rw [cmdTxStep, if_pos h, transmitCommand_eq_commandWritten]

theorem cmdTxStep_of_failed (h : nextStatus s ≠ 0#8) :
    cmdTxStep opcode p1 p2 payload onSent s = completed 0x10#8 [] (commandWritten opcode p1 p2 payload s) := by
  rw [cmdTxStep, if_neg h, transmitCommand_eq_commandWritten]
  rfl

end Command

/-! ## The response of an exchange (R190) -/

section Response

variable {n : Byte} {sc : Bool} {data : List Byte} (onData : List Byte → State → State)

theorem respRxStep_of_accepted (hn : n.toNat ≤ 252) (hd : data.length = n.toNat)
    (hok : sc = true → data.getD 0 0#8 = 0x00#8) (ha : nextAnswer s = responseFrame data) :
    respRxStep n sc onData s = onData data (fullAttempt (n.toNat + 3) (responseFrame data) s) := by
  have hpass : ¬ (sc && !statusAccepted data) = true := by simpa [statusAccepted] using hok
  rw [respRxStep, requestLength, ← hd, recvStep_of_responseFrame _ _ (hd ▸ hn) ha, if_neg hpass]

theorem respRxStep_of_rejected (hn : n.toNat ≤ 252) (hd : data.length = n.toNat)
    (hbad : data.getD 0 0#8 ≠ 0x00#8) (ha : nextAnswer s = responseFrame data) :
    respRxStep n true onData s = completed 0x30#8 data (fullAttempt (n.toNat + 3) (responseFrame data) s) := by
  have hfail : (true && !statusAccepted data) = true := by simpa [statusAccepted] using hbad
  rw [respRxStep, requestLength, ← hd, recvStep_of_responseFrame _ _ (hd ▸ hn) ha, if_pos hfail]
  rfl

end Response

end Attempt

/-- The payload of the response frame that `RXBUF` holds (R160). -/
theorem rxPayload_of_responseFrame {s : State} {data : List Byte} (h : s.rxbuf = bufferOf (responseFrame data)) :
    rxPayload data.length s = data := by
  rw [rxPayload, h, memRead_bufferOf _ _ _ (by rw [length_responseFrame]; omega)]
  simp [responseFrame, responseBody]

/-- The best-effort idle ends XACT with the payload of the frame in `RXBUF`, whatever its status (R191, R194). -/
theorem xactIdleStep_of_responseFrame {s : State} {n : Byte} {data : List Byte} (hd : data.length = n.toNat)
    (hrx : s.rxbuf = bufferOf (responseFrame data)) :
    xactIdleStep n s = completed 0x00#8 data
      { written s.params.devAddr [s.params.wordIdle] (txHolds [s.params.wordIdle] s) with
        device := s.device.onIdle } := by
  have hpayload : rxPayload n.toNat (transmitIdle s) = data := by
    rw [← hd]
    exact rxPayload_of_responseFrame (by rw [transmitIdle_eq]; exact hrx)
  have hstep : xactIdleStep n s = finish .ok (rxPayload n.toNat (transmitIdle s)) (transmitIdle s) := rfl
  rw [hstep, hpayload, transmitIdle_eq]
  rfl

end Sys2Proof.Machine

namespace Sys2Proof.SequencerProofs

open Machine Safety

/-- Settles O35: the rows of WAKE. -/
theorem wakeCompletes : Obligations.WakeCompletes :=
  fun _ => ⟨fun h => exec_of_phaseStep h rfl rfl, fun h => exec_of_phaseStep h rfl rfl,
    fun h ha => exec_of_phaseStep h rfl (congrArg some (wakeRxStep_of_ready _ ha))⟩

/-- Settles O36: a valid frame is judged by its code, and what fails to be read or to validate fails as every reception
does. -/
theorem wakeFailsWithReadiness : Obligations.WakeFailsWithReadiness :=
  fun _ h => ⟨fun _ hb ha => exec_of_phaseStep h rfl (congrArg some (wakeRxStep_of_otherCode _ hb ha)),
    fun _ hlen hbad => exec_of_invalid h rfl hlen hbad, exec_of_lastShort h rfl⟩

/-- Settles O37: each is its word and the outcome by the status. -/
theorem idleAndSleepComplete : Obligations.IdleAndSleepComplete := by
  intro s
  refine ⟨fun h => exec_of_phaseStep h rfl (congrArg some ?_), fun h => exec_of_phaseStep h rfl (congrArg some ?_)⟩
  · rw [idleStep, wordOutcome_eq_completed, transmitIdle_eq]
    rfl
  · rw [sleepStep, wordOutcome_eq_completed, transmitSleep_eq]
    rfl

/-- Settles O38: the row of WAIT. -/
theorem waitCompletes : Obligations.WaitCompletes :=
  fun _ _ h => exec_of_phaseStep h rfl rfl

/-- Settles O40: the rows of EXCH. -/
theorem exchCompletes : Obligations.ExchCompletes :=
  fun _ _ _ _ _ _ sc _ =>
    ⟨fun h => ⟨fun hsent => exec_of_phaseStep h rfl (congrArg some (cmdTxStep_of_sent _ hsent)),
        fun hfailed => exec_of_phaseStep h rfl (congrArg some (cmdTxStep_of_failed _ hfailed))⟩,
      fun h => exec_of_phaseStep h rfl rfl,
      fun _ h hn hd ha => exec_of_phaseStep h rfl (congrArg some (respRxStep_of_responseFrame sc hn hd ha))⟩

/-- Settles O42: the rows of XACT, where each succeeds. -/
theorem xactCompletes : Obligations.XactCompletes :=
  fun _ _ _ _ _ _ _ _ _ =>
    ⟨fun h => exec_of_phaseStep h rfl rfl, fun h => exec_of_phaseStep h rfl rfl,
      fun h ha => exec_of_phaseStep h rfl (congrArg some (wakeRxStep_of_ready _ ha)),
      fun h hsent => exec_of_phaseStep h rfl (congrArg some (cmdTxStep_of_sent _ hsent)),
      fun h => exec_of_phaseStep h rfl rfl,
      fun _ h hn hd hok ha => exec_of_phaseStep h rfl (congrArg some (respRxStep_of_accepted _ hn hd hok ha)),
      fun h => exec_of_phaseStep h rfl rfl,
      fun _ h hd hrx => exec_of_phaseStep h rfl (congrArg some (xactIdleStep_of_responseFrame hd hrx))⟩

/-- Settles O43: each failure is the outcome of its row. -/
theorem xactStopsAtItsFailure : Obligations.XactStopsAtItsFailure := by
  intro s opcode p1 p2 settle n sc drain payload data
  refine ⟨fun h hlen hcode ha => ?_, fun h hfailed => ?_, fun h hn hlen hbad ha => ?_⟩
  · obtain ⟨b, rfl⟩ := List.length_eq_one_iff.1 hlen
    have hb : b ≠ 0x11#8 := fun hb => hcode (by rw [hb])
    exact exec_of_phaseStep h rfl (congrArg some (wakeRxStep_of_otherCode _ hb ha))
  · exact exec_of_phaseStep h rfl (congrArg some (cmdTxStep_of_failed _ hfailed))
  · subst hn
    obtain ⟨b, rfl⟩ := List.length_eq_one_iff.1 hlen
    have hb : b ≠ 0x00#8 := fun hb => hbad (by rw [hb])
    exact exec_of_phaseStep h rfl (congrArg some (respRxStep_of_rejected _ (by decide) rfl hb ha))

end Sys2Proof.SequencerProofs
end

section
/-! PROOF. The device agent's table (42_sequencer.md R181, R182) and the timing ghost (10_state.md R38), transition by
transition. -/

namespace Sys2Proof.Machine

open Safety

/-! ## The transitions -/

section Transitions

variable {d : Device}

/-- A sleeping or unknown device that is woken is in IDLE after the settle, with the ready response pending. -/
theorem Device.onWakeSettle_onWake (h : d.devState = .asleep ∨ d.devState = .unknown) :
    d.onWake.onWakeSettle = { d with devState := .idle, waking := false, readyPending := true } := by
  rcases h with h | h <;> simp [Device.onWake, Device.onWakeSettle, h]

/-- To an awake device W-WAKE does what the table does not say. -/
theorem Device.onWake_of_awake (h : d.devState = .idle ∨ d.devState = .executing) :
    d.onWake.devState = .unknown := by
  rcases h with h | h <;> simp [Device.onWake, h]

theorem Device.onCommand_devState (p : Config.Params) (opcode p1 : Byte) (p2 : U16) (payload : List Byte) (st : Byte)
    (now : Nat) :
    (d.onCommand p opcode p1 p2 payload st now).devState = devStateAfterCommand st d.devState := by
  unfold Device.onCommand
  split <;> rfl

/-- The ghost notes a successful command write (R38). -/
theorem Device.onCommand_of_sent (p : Config.Params) (opcode p1 : Byte) (p2 : U16) (payload : List Byte) (now : Nat) :
    (d.onCommand p opcode p1 p2 payload 0#8 now).lastCmd = some now ∧
      (d.onCommand p opcode p1 p2 payload 0#8 now).reqSettle = settleMinimum p opcode := ⟨rfl, rfl⟩

/-- The ghost notes no failed one (R38). -/
theorem Device.onCommand_of_failed (p : Config.Params) (opcode p1 : Byte) (p2 : U16) (payload : List Byte) {st : Byte}
    (now : Nat) (h : st ≠ 0#8) :
    (d.onCommand p opcode p1 p2 payload st now).lastCmd = d.lastCmd ∧
      (d.onCommand p opcode p1 p2 payload st now).reqSettle = d.reqSettle := by
  simp [Device.onCommand, h]

/-- A read of the settled device completes its command. -/
theorem Device.onFullRead_of_settled {now : Nat} (h : d.devState = .executing) (hs : d.settled? now = some true) :
    (d.onFullRead now).devState = .idle := by
  simp [Device.onFullRead, h, hs]

/-- A read of a device in IDLE leaves it there. -/
theorem Device.onFullRead_of_idle (now : Nat) (h : d.devState = .idle) : (d.onFullRead now).devState = .idle := by
  simp [Device.onFullRead, h]

theorem Device.words_of_idle (h : d.devState = .idle) : d.onIdle.devState = .idle ∧ d.onSleep.devState = .asleep := by
  simp [Device.onIdle, Device.onSleep, h]

/-- A sleeping device ignores the words. -/
theorem Device.words_of_asleep (h : d.devState = .asleep) :
    d.onIdle.devState = .asleep ∧ d.onSleep.devState = .asleep := by
  simp [Device.onIdle, Device.onSleep, h]

/-- To an executing device the words do what the table does not say. -/
theorem Device.words_of_executing (h : d.devState = .executing) :
    d.onIdle.devState = .unknown ∧ d.onSleep.devState = .unknown := by
  simp [Device.onIdle, Device.onSleep, h]

end Transitions

/-! ## The settle minimums (R296) -/

/-- An opcode that is no command's has no minimum (log entry 10). -/
theorem settleMinimum_of_no_row {p : Config.Params} {opcode : Byte} (h : ∀ r ∈ commandMinimums p, r.1 ≠ opcode) :
    settleMinimum p opcode = none := by
  unfold settleMinimum
  rw [List.filter_eq_nil_iff.2 fun r hr => by
    simpa using h (r.1, r.2.toNat) (List.mem_map_of_mem (f := fun q : Byte × U16 => (q.1, q.2.toNat)) hr)]
  rfl

end Sys2Proof.Machine

namespace Sys2Proof.SequencerProofs

open Machine Safety

/-- Settles O53, row by row. -/
theorem deviceFollowsItsTable : Obligations.DeviceFollowsItsTable := by
  intro p d opcode p1 p2 payload now
  have hcommand := fun st => d.onCommand_devState p opcode p1 p2 payload st now
  obtain ⟨hlast, hsettle⟩ := d.onCommand_of_sent p opcode p1 p2 payload now
  refine ⟨fun h => ?_, fun h => ?_, fun h hs => ?_, Device.words_of_idle, fun h => ?_, rfl, Device.onWake_of_awake,
    fun h _ => ?_, hlast, hsettle, settleMinimum_of_row p, settleMinimum_of_no_row,
    fun _ => d.onCommand_of_failed p opcode p1 p2 payload now, rfl, rfl, rfl⟩
  · rw [Device.onWakeSettle_onWake h]
    exact ⟨rfl, rfl⟩
  · rw [hcommand, h]
    rfl
  · have hidle := Device.onFullRead_of_settled h hs
    exact ⟨hidle, Device.words_of_idle hidle⟩
  · exact ⟨fun st => by rw [hcommand, h]; rfl, Device.words_of_asleep h⟩
  · exact ⟨fun st => by rw [hcommand, h]; rfl, Device.words_of_executing h⟩

end Sys2Proof.SequencerProofs
end

section
/-! PROOF. Whole runs of WAKE and XACT (42_sequencer.md R183, R191), in the parts they are made of: the ready check, which
both begin with, the exchange, and the drain with its idle; and the answers of a device that keeps the premises of R198. -/

namespace Sys2Proof.Machine

open Safety

/-! ## Runs -/

theorem run_append (k : Nat) : ∀ {j : Nat} {s t u : State}, run j s = .next t → run k t = .next u →
    run (j + k) s = .next u := by
  induction k with
  | zero =>
    intro j s t u ht hu
    cases hu
    exact ht
  | succ k ih =>
    intro j s t u ht hu
    obtain ⟨v, hv, hrest⟩ := (run_succ_next_iff k t u).1 hu
    rw [Nat.add_comm k, ← Nat.add_assoc]
    exact ih (run_then_step j ht hv) hrest

/-- The engine, left alone, does the row of the operation in progress (R197). -/
theorem step_of_phaseStep {op : Instr} {p : Phase} {s t : State} (hphase : InPhase op p s) (halone : Alone s)
    (hk : op.isHostOp = true) (hrow : phaseStep op p s = some t) : step s = .next t := by
  rw [step_of_inPhase hphase halone, exec_of_phaseStep hphase hk hrow]

/-- The descriptor of a host operation within the limits, issued in READY, starts it (R26, R103). RECV is apart: it
clears `ATTEMPTS` too (R155). -/
theorem step_of_issue_encode {op : Instr} {s : State} {rest : List Input} (hready : Ready s)
    (hi : s.inbox = .issue (encode s.params op) :: rest) (hk : op.isHostOp = true) (hw : op.wf = true)
    (hl : withinLimits s.params op = true) (hc : clearsAttempts op = false) :
    step s = .next (started op (firstPhase op) { s with inbox := rest }) := by
  have hready' : Ready { s with inbox := rest } := hready
  rw [step_of_issue hi, issueDescriptor_of_ready hready' (decode_encode s.params op ⟨hw, .inl hk⟩),
    exec_eq_started hready' hk hw hl, hc]
  rfl

/-- Recording an outcome leaves the checksum unit (R26). -/
theorem completed_crcAcc (c : Byte) (data : List Byte) (s : State) : (completed c data s).crcAcc = s.crcAcc := rfl

/-- Recording an outcome is no event (R26). -/
theorem completed_events (c : Byte) (data : List Byte) (s : State) : (completed c data s).events = s.events := rfl

/-! ## The ready check (R183 to R186) -/

/-- The state once the wake write and the wake settle are done and the ready frame is read. -/
def readyReceived (s : State) : State :=
  fullAttempt 4 [0x04#8, 0x11#8, 0x33#8, 0x43#8] (wakeSettleStep (wakeTxStep s))

/-- The check takes one status and one answer of the script. -/
theorem readyReceived_transport (s : State) :
    (readyReceived s).transport = s.transport.afterStatus.afterAnswer := rfl

theorem readyReceived_events (s : State) :
    (readyReceived s).events = .busRead s.params.devAddr 4 [0x04#8, 0x11#8, 0x33#8, 0x43#8] ::
      .delayUs s.params.tWakeUs :: .busWrite s.params.generalCallAddr [] (nextStatus s) :: s.events := rfl

/-- The checksum unit holds the ready frame's checksum (R137, R158). -/
theorem readyReceived_crcAcc (s : State) : (readyReceived s).crcAcc = 0x4333#16 := by
  have hbyte : lengthByteOk 4 [0x04#8, 0x11#8, 0x33#8, 0x43#8] = true := by decide
  simp only [readyReceived, fullAttempt, hbyte, if_true]
  exact crc16_readyBody

/-- A sleeping or unknown device is in IDLE after it (R181). -/
theorem readyReceived_devState {s : State} (h : s.device.devState = .asleep ∨ s.device.devState = .unknown) :
    (readyReceived s).device.devState = .idle := by
  have hidle : s.device.onWake.onWakeSettle.devState = .idle := by rw [Device.onWakeSettle_onWake h]
  exact Device.onFullRead_of_idle _ hidle

/-- An operation whose wake rows are those of WAKE and XACT, with the ready frame to come: three steps (R183). -/
theorem run_readyCheck {op : Instr} {onReady : State → State} {s : State} {more : List (List Byte)}
    (hk : op.isHostOp = true) (htx : ∀ t, phaseStep op .wakeTx t = some (wakeTxStep t))
    (hsettle : ∀ t, phaseStep op .wakeSettle t = some (wakeSettleStep t))
    (hrx : ∀ t, phaseStep op .wakeRx t = some (wakeRxStep onReady t)) (hphase : InPhase op .wakeTx s)
    (halone : Alone s) (hanswers : s.transport.answers = [0x04#8, 0x11#8, 0x33#8, 0x43#8] :: more) :
    run 3 s = .next (onReady (readyReceived s)) := by
  have ⟨hf, _, hop, _⟩ := hphase
  have hphase₁ : InPhase op .wakeSettle (wakeTxStep s) := ⟨hf, rfl, hop, by decide⟩
  have hphase₂ : InPhase op .wakeRx (wakeSettleStep (wakeTxStep s)) := ⟨hf, rfl, hop, by decide⟩
  have hready : nextAnswer (wakeSettleStep (wakeTxStep s)) = [0x04#8, 0x11#8, 0x33#8, 0x43#8] :=
    nextAnswer_of_cons _ _ more ((Transport.afterStatus_answers _).trans hanswers)
  refine run_then_step 2 (run_then_step 1 (run_then_step 0 rfl
    (step_of_phaseStep hphase halone hk (htx s)))
    (step_of_phaseStep hphase₁ halone hk (hsettle _)))
    (step_of_phaseStep hphase₂ halone hk ((hrx _).trans (congrArg some ?_)))
  exact wakeRxStep_of_ready onReady hready

/-! ## The rest of XACT (R190, R191) -/

/-- The state once the command frame is written, the settle time is delayed and the response frame is read. -/
def responseReceived (opcode p1 : Byte) (p2 settle : U16) (n : Byte) (payload data : List Byte) (s : State) : State :=
  fullAttempt (n.toNat + 3) (responseFrame data)
    (settleStep settle (setPhase .settle (commandWritten opcode p1 p2 payload s)))

/-- The exchange takes one status and one answer of the script. -/
theorem responseReceived_transport (opcode p1 : Byte) (p2 settle : U16) (n : Byte) (payload data : List Byte)
    (s : State) :
    (responseReceived opcode p1 p2 settle n payload data s).transport = s.transport.afterStatus.afterAnswer := rfl

theorem responseReceived_events (opcode p1 : Byte) (p2 settle : U16) (n : Byte) (payload data : List Byte) (s : State) :
    (responseReceived opcode p1 p2 settle n payload data s).events =
      .busRead s.params.devAddr (n.toNat + 3) (responseFrame data) :: .delayMs settle.toNat ::
        .busWrite s.params.devAddr (commandFrame opcode p1 p2 payload) (nextStatus s) :: s.events := rfl

/-- The state once the drain and the best-effort idle are done (R191, R194). -/
def idledAfterDrain (drain : Byte) (s : State) : State := transmitIdle (drainStep drain s)

theorem idledAfterDrain_events (drain : Byte) (s : State) :
    (idledAfterDrain drain s).events =
      .busWrite s.params.devAddr [s.params.wordIdle] (nextStatus s) :: .delayMs drain.toNat :: s.events := by
  rw [idledAfterDrain, transmitIdle_eq]
  rfl

/-- The state once all eight events of a successful XACT have happened (R191). -/
def xactDone (opcode p1 : Byte) (p2 settle : U16) (n drain : Byte) (payload data : List Byte) (s : State) : State :=
  idledAfterDrain drain (setPhase .drain
    (responseReceived opcode p1 p2 settle n payload data (setPhase .cmdTx (readyReceived s))))

section Xact

variable {opcode p1 : Byte} {p2 settle : U16} {n : Byte} {sc : Bool} {drain : Byte} {payload data : List Byte}
  {s : State}

/-- The exchange of XACT, where the write succeeds and an accepted response comes: three steps (R190). -/
theorem run_xact_exchange {more : List (List Byte)}
    (hphase : InPhase (.xact opcode p1 p2 settle n sc drain payload) .cmdTx s) (halone : Alone s) (hn : n.toNat ≤ 252)
    (hd : data.length = n.toNat) (hok : sc = true → data.getD 0 0#8 = 0x00#8) (hstatus : nextStatus s = 0#8)
    (hanswers : s.transport.answers = responseFrame data :: more) :
    run 3 s = .next (setPhase .drain (responseReceived opcode p1 p2 settle n payload data s)) := by
  have ⟨hf, _, hop, _⟩ := hphase
  have hphase₁ : InPhase (.xact opcode p1 p2 settle n sc drain payload) .settle
      (setPhase .settle (commandWritten opcode p1 p2 payload s)) := ⟨hf, rfl, hop, by decide⟩
  have hphase₂ : InPhase (.xact opcode p1 p2 settle n sc drain payload) .respRx
      (settleStep settle (setPhase .settle (commandWritten opcode p1 p2 payload s))) := ⟨hf, rfl, hop, by decide⟩
  have hanswer : nextAnswer (settleStep settle (setPhase .settle (commandWritten opcode p1 p2 payload s))) =
      responseFrame data :=
    nextAnswer_of_cons _ _ more ((Transport.afterStatus_answers _).trans hanswers)
  exact run_then_step 2 (run_then_step 1 (run_then_step 0 rfl
    (step_of_phaseStep hphase halone rfl (congrArg some (cmdTxStep_of_sent _ hstatus))))
    (step_of_phaseStep hphase₁ halone rfl rfl))
    (step_of_phaseStep hphase₂ halone rfl (congrArg some (respRxStep_of_accepted _ hn hd hok hanswer)))

/-- The drain and the idle of XACT, which end it with the payload in `RXBUF`: two steps (R191). -/
theorem run_xact_end (hphase : InPhase (.xact opcode p1 p2 settle n sc drain payload) .drain s) (halone : Alone s)
    (hd : data.length = n.toNat) (hrx : s.rxbuf = bufferOf (responseFrame data)) :
    run 2 s = .next (completed 0x00#8 data (idledAfterDrain drain s)) := by
  have ⟨hf, _, hop, _⟩ := hphase
  have hphase₁ : InPhase (.xact opcode p1 p2 settle n sc drain payload) .idleTx (drainStep drain s) :=
    ⟨hf, rfl, hop, by decide⟩
  refine run_then_step 1 (run_then_step 0 rfl (step_of_phaseStep hphase halone rfl rfl))
    (step_of_phaseStep hphase₁ halone rfl (congrArg some ?_))
  rw [xactIdleStep_of_responseFrame (s := drainStep drain s) hd hrx, idledAfterDrain, transmitIdle_eq]
  rfl

variable {wakeStatus idleStatus : Byte} {statuses : List Byte} {answers : List (List Byte)}

/-- The three statuses of XACT's writes, as the script has them. -/
theorem xact_statuses (hstatuses : s.transport.statuses = wakeStatus :: 0x00#8 :: idleStatus :: statuses) :
    nextStatus s = wakeStatus ∧ nextStatus (setPhase .cmdTx (readyReceived s)) = 0x00#8 ∧
      nextStatus (setPhase .drain (responseReceived opcode p1 p2 settle n payload data
        (setPhase .cmdTx (readyReceived s)))) = idleStatus := by
  refine ⟨nextStatus_of_cons _ _ _ hstatuses, nextStatus_of_cons _ _ (idleStatus :: statuses) ?_,
    nextStatus_of_cons _ _ statuses ?_⟩ <;>
    simp [responseReceived_transport, readyReceived_transport, hstatuses]

/-- XACT where each phase succeeds: its eight events, one a step (R191). -/
theorem run_xact (hphase : InPhase (.xact opcode p1 p2 settle n sc drain payload) .wakeTx s) (halone : Alone s)
    (hn : n.toNat ≤ 252) (hd : data.length = n.toNat) (hok : sc = true → data.getD 0 0#8 = 0x00#8)
    (hstatuses : s.transport.statuses = wakeStatus :: 0x00#8 :: idleStatus :: statuses)
    (hanswers : s.transport.answers = [0x04#8, 0x11#8, 0x33#8, 0x43#8] :: responseFrame data :: answers) :
    run 8 s = .next (completed 0x00#8 data (xactDone opcode p1 p2 settle n drain payload data s)) := by
  have ⟨hf, _, hop, _⟩ := hphase
  have hphase₁ : InPhase (.xact opcode p1 p2 settle n sc drain payload) .cmdTx (setPhase .cmdTx (readyReceived s)) :=
    ⟨hf, rfl, hop, by decide⟩
  have hphase₂ : InPhase (.xact opcode p1 p2 settle n sc drain payload) .drain (setPhase .drain
      (responseReceived opcode p1 p2 settle n payload data (setPhase .cmdTx (readyReceived s)))) :=
    ⟨hf, rfl, hop, by decide⟩
  have hanswers₁ : (setPhase .cmdTx (readyReceived s)).transport.answers = responseFrame data :: answers := by
    simp [readyReceived_transport, hanswers]
  obtain ⟨_, hsent, _⟩ := xact_statuses (opcode := opcode) (p1 := p1) (p2 := p2) (settle := settle) (n := n)
    (payload := payload) (data := data) hstatuses
  have hcheck := run_readyCheck rfl (fun _ => rfl) (fun _ => rfl) (fun _ => rfl) hphase halone hanswers
  have hexchange := run_xact_exchange hphase₁ halone hn hd hok hsent hanswers₁
  exact run_append 2 (run_append 3 hcheck hexchange) (run_xact_end hphase₂ halone hd rfl)

/-- The events of XACT stand in R191's order, newest first. -/
theorem xactDone_events (hstatuses : s.transport.statuses = wakeStatus :: 0x00#8 :: idleStatus :: statuses) :
    (xactDone opcode p1 p2 settle n drain payload data s).events =
      [.busWrite s.params.devAddr [s.params.wordIdle] idleStatus, .delayMs drain.toNat,
        .busRead s.params.devAddr (n.toNat + 3) (responseFrame data), .delayMs settle.toNat,
        .busWrite s.params.devAddr (commandFrame opcode p1 p2 payload) 0x00#8,
        .busRead s.params.devAddr 4 [0x04#8, 0x11#8, 0x33#8, 0x43#8], .delayUs s.params.tWakeUs,
        .busWrite s.params.generalCallAddr [] wakeStatus] ++ s.events := by
  obtain ⟨hwake, hsent, hidle⟩ := xact_statuses (opcode := opcode) (p1 := p1) (p2 := p2) (settle := settle) (n := n)
    (payload := payload) (data := data) hstatuses
  rw [xactDone, idledAfterDrain_events, hidle, setPhase_events, responseReceived_events, hsent, setPhase_events,
    readyReceived_events, hwake]
  rfl

end Xact

/-! ## Premised answers (R198) -/

/-- In a receive phase the next step reads what the row asks for (R155, R186). -/
theorem nextRead_of_inPhase {op : Instr} {p : Phase} {s : State} (h : InPhase op p s) :
    nextRead s = receiveLength op p := by
  obtain ⟨_, hp, hop, _⟩ := h
  rw [nextRead, hop, hp]
  rfl

end Sys2Proof.Machine

namespace Sys2Proof.SequencerProofs

open Machine Safety

/-- Settles O39: acceptance, the ready check, and its outcome. -/
theorem wakeRunsToReady : Obligations.WakeRunsToReady := by
  intro s more hready hi hdevice hanswers
  have hstart := step_of_issue_encode (op := .wake) hready hi rfl rfl rfl rfl
  have hphase : InPhase .wake .wakeTx (started .wake .wakeTx { s with inbox := [] }) :=
    ⟨hready.1, rfl, rfl, by decide⟩
  have hcheck := run_readyCheck rfl (fun _ => rfl) (fun _ => rfl) (fun _ => rfl) hphase rfl hanswers
  exact ⟨_, (run_succ_next_iff ..).2 ⟨_, hstart, hcheck⟩, rfl, rfl, rfl,
    readyReceived_devState (s := started .wake .wakeTx { s with inbox := [] }) hdevice, rfl,
    (completed_crcAcc ..).trans (readyReceived_crcAcc _), rfl,
    (completed_events ..).trans (readyReceived_events _)⟩

/-- Settles O44: acceptance, and the eight steps of XACT. -/
theorem xactRunsToCompletion : Obligations.XactRunsToCompletion := by
  intro s opcode p1 p2 settle n sc drain payload data wakeStatus idleStatus statuses answers hready hp hn hsc hd hok
    hi hstatuses hanswers
  obtain ⟨hw, hl⟩ := operands_ok hp hn hsc
  have hstart := step_of_issue_encode hready hi rfl hw hl rfl
  have hphase : InPhase (.xact opcode p1 p2 settle n sc drain payload) .wakeTx
      (started (.xact opcode p1 p2 settle n sc drain payload) .wakeTx { s with inbox := [] }) :=
    ⟨hready.1, rfl, rfl, by decide⟩
  have haccepted : sc = true → data.getD 0 0#8 = 0x00#8 := fun h => by rw [hok h]; rfl
  have hrun := run_xact hphase rfl hn hd haccepted hstatuses hanswers
  exact ⟨_, (run_succ_next_iff ..).2 ⟨_, hstart, hrun⟩, rfl, rfl, rfl, hready.1, rfl,
    (length_responseFrame data).trans (congrArg (· + 3) hd), rfl, rfl, rfl,
    (completed_events ..).trans (xactDone_events hstatuses)⟩

/-- Settles O58: the premises give the answer that the ready check and the exchange succeed on. -/
theorem premisedAnswersSucceedOrReportStatus : Obligations.PremisedAnswersSucceedOrReportStatus := by
  intro s hinit
  refine ⟨fun hpremise hidle hpending => ?_, fun hpremise hexec hsettled i opcode p1 p2 settle n sc payload hk hexpand
    hphase hlen => ?_⟩
  · have hanswer := hpremise hinit hidle hpending
    refine ⟨fun h => ?_, fun opcode p1 p2 settle n sc drain payload h => ?_⟩
    · have ha := hanswer (nextRead_of_inPhase h)
      exact exec_of_phaseStep h rfl (congrArg some (wakeRxStep_of_ready _ ha))
    · have ha := hanswer (nextRead_of_inPhase h)
      exact exec_of_phaseStep h rfl (congrArg some (wakeRxStep_of_ready _ ha))
  · have hread : nextRead s = some (n.toNat + 3) := by
      rw [nextRead_of_inPhase hphase, hexpand]
      rfl
    obtain ⟨data, hd, ha⟩ := hpremise n.toNat hinit hexec hsettled hlen hread
    exact ⟨data, hd, ha, IssueProofs.pseudoInstructionsComplete s i data opcode p1 p2 settle n sc payload hk hexpand
      hphase hd ha⟩

end Sys2Proof.SequencerProofs
end

section
/-! PROOF. The output of `random(length)` (43_commands.md R240): the blocks, cut at the bytes that remain. -/

namespace Sys2Proof.Machine

/-! ## The output and the number of calls (R240) -/

theorem randomOutput_nil (length : Nat) : randomOutput length [] = [] := rfl

theorem randomOutput_cons (length : Nat) (block : List Byte) (blocks : List (List Byte)) :
    randomOutput length (block :: blocks) = block.take (min Config.RANDOM_BLOCK length) ++
      randomOutput (length - min Config.RANDOM_BLOCK length) blocks := rfl

/-- However many blocks there are: where they hold too few bytes, the output is all of them. -/
theorem randomOutput_eq_take_flatten (length : Nat) (blocks : List (List Byte))
    (hblocks : ∀ b ∈ blocks, b.length = Config.RANDOM_BLOCK) :
    randomOutput length blocks = blocks.flatten.take length := by
  induction blocks generalizing length with
  | nil => rw [randomOutput_nil, List.flatten_nil, List.take_nil]
  | cons block blocks ih =>
    obtain ⟨hblock, hrest⟩ := List.forall_mem_cons.1 hblocks
    have hremaining : length - min Config.RANDOM_BLOCK length = length - block.length := by omega
    have hcopied : block.take (min Config.RANDOM_BLOCK length) = block.take length := by
      rw [← hblock, min_comm, ← List.take_eq_take_min]
    rw [randomOutput_cons, ih _ hrest, hremaining, hcopied, List.flatten_cons, List.take_append]

theorem length_flatten_of_blocks {blocks : List (List Byte)} (hblocks : ∀ b ∈ blocks, b.length = Config.RANDOM_BLOCK) :
    blocks.flatten.length = blocks.length * Config.RANDOM_BLOCK := by
  rw [List.length_flatten, List.sum_eq_card_nsmul _ _ (List.forall_mem_map.2 hblocks), List.length_map, smul_eq_mul]

/-- Enough calls: the last may deliver bytes that are not asked for, but none is missing. -/
theorem le_randomCalls_mul (length : Nat) : length ≤ randomCalls length * Config.RANDOM_BLOCK := by
  unfold randomCalls Config.RANDOM_BLOCK
  omega

end Sys2Proof.Machine

namespace Sys2Proof.CommandProofs

open Machine

/-- Settles O54: the output is cut from the joined blocks, which hold at least `length` bytes. -/
theorem randomOutputIsTheFirstBytes : Obligations.RandomOutputIsTheFirstBytes := by
  intro length blocks hcalls hblocks
  have houtput := randomOutput_eq_take_flatten length blocks hblocks
  have henough : length ≤ blocks.flatten.length := by
    rw [length_flatten_of_blocks hblocks, hcalls]
    exact le_randomCalls_mul length
  exact ⟨houtput, by rw [houtput, List.length_take_of_le henough]⟩

end Sys2Proof.CommandProofs
end

section
/-! PROOF. The faulted engine (60_exceptions.md R267): what shares the form of a host operation or of a bus event stops
before anything else, and so does every instruction and every way to one. -/

namespace Sys2Proof.Machine

theorem hostOp_of_faulted (op : Instr) (goOn : State → Out) {s : State} (hf : s.fault = true) :
    hostOp op goOn s = .fault .engineFaulted := if_pos hf

theorem onBus_of_faulted (f : State → State) {s : State} (hf : s.fault = true) : onBus f s = .fault .engineFaulted :=
  if_pos hf

theorem execReserved_of_faulted (op : Byte) (tail : List Byte) {s : State} (hf : s.fault = true) :
    execReserved op tail s = .fault .engineFaulted := if_pos hf

/-- A wire format is a bus event, and a host operation or a pseudo-instruction has a host operation's form (R122). -/
theorem exec_of_faulted (i : Instr) {s : State} (hf : s.fault = true) : exec i s = .fault .engineFaulted := by
  cases i with
  | reserved op tail => exact execReserved_of_faulted op tail hf
  | wCmd | wRsp | wIdle | wSleep | wWake => exact onBus_of_faulted _ hf
  | _ => exact hostOp_of_faulted _ _ hf

theorem issueDescriptor_of_faulted (d : List Byte) {s : State} (hf : s.fault = true) :
    issueDescriptor d s = .fault .engineFaulted := if_pos hf

theorem engineTurn_of_faulted {s : State} (hf : s.fault = true) : engineTurn s = .fault .engineFaulted := if_pos hf

end Sys2Proof.Machine

namespace Sys2Proof.ExceptionProofs

open Machine

/-- Settles O5: the step is the engine's turn or the issue, and neither it nor an instruction goes on while faulted. -/
theorem faultedEngineTakesNoStep : Obligations.FaultedEngineTakesNoStep := by
  intro s hf
  refine ⟨fun hi => ?_, fun d rest hi => ?_, fun i => exec_of_faulted i hf⟩
  · rw [step_of_empty s hi]
    exact engineTurn_of_faulted hf
  · rw [step_of_issue hi]
    exact issueDescriptor_of_faulted d hf

end Sys2Proof.ExceptionProofs
end

section
/-! PROOF. The statements about reset and `BusInit`: no step writes the configuration, and `BusInit` is one event. -/

namespace Sys2Proof.HazardProofs

open Machine

/-- Settles O6: what a step records, be it nothing or one event, leaves the configuration (R40). -/
theorem stepKeepsTheConfiguration : Obligations.StepKeepsTheConfiguration := by
  intro s t h
  cases step_event h with
  | quiet records => exact records.cfg
  | event e records _ => exact records.cfg

/-- Settles O57: the step takes the action off the inbox, and `busInit` writes the event and the note. -/
theorem busInitIsOneEvent : Obligations.BusInitIsOneEvent := by
  intro s rest hi
  rw [step_of_cons s _ _ hi, popInbox_of_cons hi]
  rfl

end Sys2Proof.HazardProofs
end

section
/-! PROOF. The command profiles (43_commands.md R220 to R233): the settle time of each is its opcode's minimum (R296),
and its response length is told by the opcode and, for READ, by the high bit of the zone selector (R228). -/

namespace Sys2Proof.Machine

open Safety

/-! ## The settle minimum -/

/-- Where the nine opcodes differ, each command's minimum is that of its own row (R296). -/
theorem settleMinimum_of_nodup {p : Config.Params} (hp : ((commandMinimums p).map Prod.fst).Nodup) {r : Byte × Nat}
    (hr : r ∈ commandMinimums p) : settleMinimum p r.1 = some r.2 :=
  settleMinimum_of_row p r hr fun _ hq h => (congrArg Prod.snd (List.inj_on_of_nodup_map hp hq hr h)).le

/-- The exchange of a pseudo-instruction waits what R296's row of its opcode says. -/
theorem settle_mem_commandMinimums {p : Config.Params} {i : Instr} {opcode p1 : Byte} {p2 settle : U16} {n : Byte}
    {sc : Bool} {payload : List Byte} (hk : i.isPseudo = true)
    (he : expand p i = .exch opcode p1 p2 settle n sc payload) : (opcode, settle.toNat) ∈ commandMinimums p := by
  cases i with
  | random | genkeyCreate | genkeyPublic | nonce | sign | verify | read4 | read32 | write4 | write32 | lockConfig
  | lockData | info =>
    cases he
    simp [commandMinimums, Config.T_RANDOM_MS, Config.T_GENKEY_MS, Config.T_SIGN_MS, Config.T_VERIFY_MS,
      Config.T_READ_MS, Config.T_WRITE_MS, Config.T_LOCK_MS]
  | _ => cases hk

/-! ## The response length -/

/-- Each command's opcode with the number of payload bytes of its response, param1 being `p1` (R220 to R233): a READ
with the high bit of the zone selector answers 32 bytes, one without it 4 (R228). -/
def commandResponses (p : Config.Params) (p1 : Byte) : List (Byte × Nat) :=
  [(p.opRandom, 32), (p.opGenkey, 64), (p.opNonce, 1), (p.opSign, 64), (p.opVerify, 1),
   (p.opRead, if p1 &&& p.zoneSel32 = 0#8 then 4 else 32), (p.opWrite, 1), (p.opLock, 1), (p.opInfo, 4)]

/-- Both tables list the nine opcodes. -/
theorem opcodes_commandResponses (p : Config.Params) (p1 : Byte) :
    (commandResponses p p1).map Prod.fst = (commandMinimums p).map Prod.fst := rfl

/-- The high bit tells the two zone selectors of each zone: R7 puts it above the zone numbers. -/
theorem zoneSelectors_and_zoneSel32 (c : Config.Handle) (z : Zone) :
    zoneSelector4 z &&& c.params.zoneSel32 = 0#8 ∧ zoneSelector32 c.params z &&& c.params.zoneSel32 ≠ 0#8 := by
  have hc := c.admissible
  simp only [Config.Params.wf, Bool.and_eq_true, decide_eq_true_eq] at hc
  obtain ⟨_, hbit⟩ := hc
  have hall : ∀ b ∈ [0x04#8, 0x08#8, 0x10#8, 0x20#8, 0x40#8, 0x80#8],
      zoneNumber z &&& b = 0#8 ∧ (zoneNumber z ||| b) &&& b ≠ 0#8 := by
    cases z <;> decide
  exact hall _ hbit

theorem exists_profile_of_zoneProfile {p : Config.Params} {P : Profile → Prop} (z : Zone)
    (h : ∃ r ∈ zoneProfiles p z, P r) : ∃ r ∈ profiles p, P r := by
  obtain ⟨r, hr, hP⟩ := h
  refine ⟨r, ?_, hP⟩
  cases z <;> simp [profiles, hr]

theorem response_of_zoneProfiles (c : Config.Handle) (z : Zone) {r : Profile} (hr : r ∈ zoneProfiles c.params z) :
    (r.opcode, r.responseLength) ∈ commandResponses c.params r.p1 := by
  obtain ⟨hclear, hset⟩ := zoneSelectors_and_zoneSel32 c z
  simp only [zoneProfiles, List.mem_cons, List.not_mem_nil, or_false] at hr
  obtain rfl | rfl | rfl | rfl := hr <;> simp [commandResponses, hclear, hset]

/-- The opcode and param1 of a profile tell its response length. -/
theorem response_of_profiles (c : Config.Handle) {r : Profile} (hr : r ∈ profiles c.params) :
    (r.opcode, r.responseLength) ∈ commandResponses c.params r.p1 := by
  simp only [profiles, List.mem_append] at hr
  obtain hr | (hr | hr) | hr := hr
  · simp only [List.mem_cons, List.not_mem_nil, or_false] at hr
    obtain rfl | rfl | rfl | rfl | rfl | rfl | rfl | rfl | rfl := hr <;> simp [commandResponses]
  · exact response_of_zoneProfiles c .config hr
  · exact response_of_zoneProfiles c .otp hr
  · exact response_of_zoneProfiles c .data hr

theorem Profile.fits_iff (r : Profile) (opcode p1 : Byte) (p2 : U16) (payload : List Byte) :
    r.fits opcode p1 p2 payload = true ↔
      r.opcode = opcode ∧ r.p1 = p1 ∧ (∀ v ∈ r.p2, v = p2) ∧ r.payloadLength = payload.length := by
  cases hp2 : r.p2 <;> simp [Profile.fits, hp2, and_assoc]

/-- Where the nine opcodes differ, the profiles that a frame fits agree on its response length (R198 (b)). -/
theorem responseLength_of_fits {c : Config.Handle} (hc : ((commandMinimums c.params).map Prod.fst).Nodup)
    {opcode p1 : Byte} {p2 : U16} {payload : List Byte} {r : Profile} (hr : r ∈ profiles c.params)
    (hfits : r.fits opcode p1 p2 payload = true) :
    responseLength c.params opcode p1 p2 payload = some r.responseLength := by
  refine responseLength_of_profile _ _ _ _ _ r hr hfits fun q hq hqfits => ?_
  obtain ⟨rfl, rfl, _⟩ := (Profile.fits_iff r _ _ _ _).1 hfits
  obtain ⟨hopcode, hp1, _⟩ := (Profile.fits_iff q _ _ _ _).1 hqfits
  have hqrow : (r.opcode, q.responseLength) ∈ commandResponses c.params r.p1 := by
    rw [← hopcode, ← hp1]
    exact response_of_profiles c hq
  rw [← opcodes_commandResponses c.params r.p1] at hc
  exact congrArg Prod.snd (List.inj_on_of_nodup_map hc hqrow (response_of_profiles c hr) rfl)

/-- The exchange of a well-formed pseudo-instruction fits a profile that expects what the exchange does; a digest that
is not 32 bytes long fits none (R223). -/
theorem exists_profile_of_expand {p : Config.Params} {i : Instr} {opcode p1 : Byte} {p2 settle : U16} {n : Byte}
    {sc : Bool} {payload : List Byte} (hk : i.isPseudo = true) (hw : i.wf = true)
    (hdigest : ∀ digest, i = .nonce digest → digest.length = 32)
    (he : expand p i = .exch opcode p1 p2 settle n sc payload) :
    ∃ r ∈ profiles p, r.fits opcode p1 p2 payload = true ∧ r.responseLength = n.toNat := by
  cases i with
  | random | genkeyCreate | genkeyPublic | sign | lockConfig | lockData | info =>
    cases he
    simp [profiles, Profile.fits_iff]
  | nonce digest =>
    cases he
    exact ⟨⟨p.opNonce, p.nonceMode, some p.nonceP2, 32, 1⟩, by simp [profiles],
      by simp [Profile.fits_iff, hdigest _ rfl], rfl⟩
  | verify signature publicKey =>
    cases he
    simp only [Instr.wf, Bool.and_eq_true, decide_eq_true_eq] at hw
    simp [profiles, Profile.fits_iff, hw]
  | read4 zone | read32 zone =>
    cases he
    exact exists_profile_of_zoneProfile zone (by simp [zoneProfiles, Profile.fits_iff])
  | write4 zone | write32 zone =>
    cases he
    simp only [Instr.wf, decide_eq_true_eq] at hw
    exact exists_profile_of_zoneProfile zone (by simp [zoneProfiles, Profile.fits_iff, hw])
  | _ => cases hk

end Sys2Proof.Machine

namespace Sys2Proof.CommandProofs

open Machine

/-- Settles O59: R296's row of the opcode, and the profile that the frame fits. -/
theorem profilesCarryTheirMinimumAndLength : Obligations.ProfilesCarryTheirMinimumAndLength := by
  intro c i opcode p1 p2 settle n sc payload hnodup hk hw hdigest he
  obtain ⟨r, hr, hfits, hlen⟩ := exists_profile_of_expand hk hw hdigest he
  exact ⟨settleMinimum_of_nodup hnodup (settle_mem_commandMinimums hk he),
    hlen ▸ responseLength_of_fits hnodup hr hfits⟩

end Sys2Proof.CommandProofs
end
